-- ==== Sys2Proof/Word.lean ====
section
/-! DEFINITION. The word types of QDITH: register words, transaction words, binary64 encodings, pixels
and image coordinates (spec 00_scope.md R11, R12; 30_encoding.md R80; 20_memory.md R55, R56). -/

namespace Sys2Proof

/-- A host register, or the DATA of a transaction: 64 bits (R11). -/
abbrev Word := BitVec 64

/-- A binary64 value, by its encoding (R14). -/
abbrev F64 := BitVec 64

/-- A byte. -/
abbrev Byte := BitVec 8

/-- The host transaction word TW, 73 bits: WE, OFFSET, DATA (R80). -/
abbrev Transaction := BitVec 73

/-- A 16-bit source channel sample (R11). -/
abbrev Sample16 := BitVec 16

/-- An 8-bit reduced or output channel sample (R11). -/
abbrev Sample8 := BitVec 8

/-- A source pixel: R in the low 16 bits, then G, B, A (R55). -/
abbrev SrcPixel := BitVec 64

/-- A destination pixel: R in the low 8 bits, then G, B, A (R56). -/
abbrev DstPixel := BitVec 32

/-- A lossiness level, 0 to 7 (R27). -/
abbrev Level := BitVec 3

/-- An image coordinate: `x` and `y` are the 32-bit two's complement encodings (R11, R30). -/
structure Coord where
  x : BitVec 32
  y : BitVec 32
  deriving DecidableEq, Repr

end Sys2Proof
end

