-- ==== Sys2Proof/Config.lean ====
section
/-! DEFINITION. What an implementation fixes (the open parameters P1 to P5 of spec 92_eei_decisions.md)
and the free values of the model. Every one is an opaque constant: no proof can see its value, so what is
proved of the machine holds for every choice of it. -/

namespace Sys2Proof

/-- The two linearizer variants (R6). -/
inductive Linearizer where
  | power
  | lut
  deriving DecidableEq, Repr, Inhabited

/-- The parameters "the reader's model takes as an argument" (R6 to R10). `powRaw` and `expandRows` are
the unconstrained parts of P_POW and P_EXPAND: `Machine.pow` and `Machine.expand` lay the spec's laws over
them (the four properties of R7, row 0 of R8). -/
structure Params where
  /-- P_LINEARIZER (R6). -/
  linearizer : Linearizer
  /-- P_POW where R7 leaves it open. -/
  powRaw : F64 → F64 → F64
  /-- P_EXPAND; only rows 1 to 7 are read through `Machine.expand` (R8). -/
  expandRows : Level → BitVec 8 → Sample8
  /-- P_NOISE, by row `y mod 16` and column `x mod 16` (R9). -/
  noise : BitVec 4 → BitVec 4 → F64
  /-- P_BASE, the platform address of the register block (R10). -/
  base : Nat
  deriving Inhabited

namespace Config

/-- The parameters of the machine (log entry 3). -/
opaque params : Params

/-- FREE VALUE: what the source image holds at a coordinate nobody has written in the model (R55: its
contents are no state of QDITH; log entry 6). -/
opaque srcInit : Coord → SrcPixel

/-- FREE VALUE: what the destination image holds at a coordinate nobody has written in the model (R56;
log entry 6). -/
opaque dstInit : Coord → DstPixel

/-- FREE VALUE: the pixel a frame writes at a coordinate it had not yet written when the host broke the
duty of R236, by the number of the draw (log entry 9). -/
opaque freePixel : Nat → Coord → DstPixel

/-- FREE VALUE: which pending coordinate the sequencer takes when the schedule does not say (R173 "the
order is free"; log entry 2). -/
opaque freePick : Nat → Nat

end Config

end Sys2Proof
end

