-- ==== Sys2Proof/Machine/Float.lean ====
section
/-! DEFINITION. Binary64 arithmetic (00_scope.md R14): `f64`, `fsub`, `fdiv`, `fgt`. A finite value is read as
an exact integer count of units of 2^-1074 (the smallest subnormal), results are computed exactly as a
quotient of two naturals, and rounded once, to nearest, ties to even. No flag, trap or rounding mode exists
(R14). A NaN result has one bit pattern; no payload can be observed (U18, log entry 8). -/

namespace Sys2Proof.Machine

open Sys2Proof

/-- The sign bit. -/
def fneg (a : F64) : Bool := a.getLsbD 63

/-- The encoding without its sign bit: it orders the magnitudes of everything that is not NaN. -/
def fmag (a : F64) : Nat := a.toNat % 2 ^ 63

/-- The magnitude bits of infinity: exponent field all ones, fraction zero. -/
def infMag : Nat := 2047 * 2 ^ 52

/-- NaN: exponent field all ones, fraction not zero. -/
def isNan (a : F64) : Bool := infMag < fmag a

/-- An infinity of either sign. -/
def isInf (a : F64) : Bool := fmag a == infMag

/-- The magnitude of a finite value in units of 2^-1074. -/
def units (a : F64) : Nat :=
  let e := fmag a / 2 ^ 52
  let f := fmag a % 2 ^ 52
  if e = 0 then f else (2 ^ 52 + f) * 2 ^ (e - 1)

/-- A finite value as a signed count of units of 2^-1074. -/
def signedUnits (a : F64) : Int := if fneg a then -(units a : Int) else (units a : Int)

/-- An encoding from its sign and its magnitude bits. -/
def fpack (neg : Bool) (mag : Nat) : F64 := BitVec.ofNat 64 ((if neg then 2 ^ 63 else 0) + mag)

/-- The NaN of the model, the one spec 95_test_vectors.md section 2.6 shows for 0/0 (log entry 8). -/
def fnan : F64 := 0x7FF8000000000000

/-- The nearest natural to `num / den`, ties to even. -/
def roundNat (num den : Nat) : Nat :=
  let q := num / den
  let r := num % den
  if den < 2 * r || (2 * r == den && q % 2 == 1) then q + 1 else q

/-- The number of low bits that rounding to 53 significant bits drops from `num / den` units. -/
def roundShift (num den : Nat) : Nat := (num / den).log2 + 1 - 53

/-- The magnitude bits of the binary64 value nearest to `num / den` units of 2^-1074, ties to even; the
magnitude of infinity when that is out of range. With `sh` bits dropped and `m` the rounded significand,
`sh * 2^52 + m` is the encoding in every case: subnormal, normal, and a carry into the next binade. -/
def roundMag (num den : Nat) : Nat :=
  let sh := roundShift num den
  min (sh * 2 ^ 52 + roundNat num (den * 2 ^ sh)) infMag

/-- The number of units of 2^-1074 in 1. Irreducible, so that no tactic expands the numeral. -/
@[irreducible] def unitScale : Nat := 2 ^ 1074

/-- The exact binary64 value of an integer (R14). -/
def f64 (n : Nat) : F64 := fpack false (roundMag (n * unitScale) 1)

/-- Subtraction (R14). An exact zero is `+0.0`, except `-0.0 - +0.0`. -/
def fsub (a b : F64) : F64 :=
  if isNan a || isNan b then fnan
  else if isInf a then (if isInf b && fneg a == fneg b then fnan else a)
  else if isInf b then fpack (!fneg b) infMag
  else
    let d := signedUnits a - signedUnits b
    if d = 0 then fpack (fneg a && !fneg b) 0
    else fpack (d < 0) (roundMag d.natAbs 1)

/-- Division (R14), with the IEEE results for zero divisors and infinities. -/
def fdiv (a b : F64) : F64 :=
  let neg := fneg a != fneg b
  if isNan a || isNan b then fnan
  else if isInf a then (if isInf b then fnan else fpack neg infMag)
  else if isInf b then fpack neg 0
  else if units b = 0 then (if units a = 0 then fnan else fpack neg infMag)
  else fpack neg (roundMag (units a * unitScale) (units b))

/-- The order of the values that are not NaN; both zeros give 0. -/
def forder (a : F64) : Int := if fneg a then -(fmag a : Int) else (fmag a : Int)

/-- The ordered greater-than: false when either operand is NaN (R14). -/
def fgt (a b : F64) : Bool := !isNan a && !isNan b && decide (forder b < forder a)

/-- The ordered less-or-equal, used only to state ranges such as `0 <= q <= 1` (R7, R42). -/
def fle (a b : F64) : Bool := !isNan a && !isNan b && decide (forder a ≤ forder b)

/-- The binary64 value 1.0. -/
def fone : F64 := 0x3FF0000000000000

/-- The binary64 value +0.0. -/
def fzero : F64 := 0

/-- A value in [0, 1] (R7). -/
def inUnit (q : F64) : Bool := fle fzero q && fle q fone

/-- GAMMA_DEFAULT, the binary64 value nearest to 2.2 (R15). -/
def gammaDefault : F64 := 0x400199999999999A

end Sys2Proof.Machine
end

