-- ==== Sys2Proof/Machine/Datapath.lean ====
section
/-! DEFINITION. The dithering datapath (40_datapath.md R100 to R116), stage by stage. Every stage is a pure
function of its operands, the parameters and the LUT (R114). -/

namespace Sys2Proof.Machine

open Sys2Proof

/-- The gamma table: 256 binary64 entries (R33, R54). -/
abbrev Lut := Vector F64 256

/-- P_POW with the four properties R7 requires of it: POW_ONE, POW_ID, POW_ZERO, POW_RANGE. Where a
property fixes the result it is that result; elsewhere it is the open `powRaw`, so `pow` ranges over exactly
the functions that have the four properties (log entry 4). -/
def pow (P : Params) (q g : F64) : F64 :=
  if q = fone then fone
  else if g = fone then q
  else if q = fzero && fgt g fzero then fzero
  else
    let r := P.powRaw q g
    if inUnit q && fgt g fzero && !inUnit r then fzero else r

/-- P_EXPAND: row 0 is the identity, the other rows are open (R8, R52). -/
def expand (P : Params) (L : Level) (i : Nat) : Sample8 :=
  if L = 0 then BitVec.ofNat 8 i else P.expandRows L (BitVec.ofNat 8 i)

/-- TRUNC: the high byte of a 16-bit sample (R101). -/
def trunc (s16 : Sample16) : Sample8 := s16.extractLsb' 8 8

/-- BRACKET, index stage: `s8 >> L` (R103). -/
def shifted (L : Level) (s8 : Sample8) : Nat := s8.toNat >>> L.toNat

/-- BRACKET, index stage: the low index (R103). -/
def lowIndex (L : Level) (s8 : Sample8) : Nat :=
  if 0 < shifted L s8 then shifted L s8 - 1 else 0

/-- `M(L)`, the highest index the bracket selector reads (R41, R106). -/
def maxIndex (L : Level) : Nat := (254 >>> L.toNat) + 1

/-- Whether the bracket advances: `s8 >= upper` of the initial read (R105). -/
def advances (P : Params) (L : Level) (s8 : Sample8) : Bool :=
  decide (expand P L (lowIndex L s8 + 1) ≤ s8)

/-- The index of the bracket's lower endpoint, after the advance if there is one (R104, R105). -/
def bracketIndex (P : Params) (L : Level) (s8 : Sample8) : Nat :=
  if advances P L s8 then lowIndex L s8 + 1 else lowIndex L s8

/-- BRACKET: the pair `(lower, upper)` (R104, R105). -/
def bracket (P : Params) (L : Level) (s8 : Sample8) : Sample8 × Sample8 :=
  (expand P L (bracketIndex P L s8), expand P L (bracketIndex P L s8 + 1))

/-- NOISEINDEX: row `y mod 16` and column `x mod 16` (R107). -/
def noiseIndex (c : Coord) : BitVec 4 × BitVec 4 := (c.y.extractLsb' 0 4, c.x.extractLsb' 0 4)

/-- NOISE: the threshold shared by the four channels of a pixel (R108, R53). -/
def noiseAt (P : Params) (c : Coord) : F64 := P.noise (noiseIndex c).1 (noiseIndex c).2

/-- The operand of the power law for an 8-bit value: `fdiv(f64(v), f64(255))` (R109). -/
def unitValue (v : Sample8) : F64 := fdiv (f64 v.toNat) (f64 255)

/-- LIN, power-law core (R109). -/
def linPower (P : Params) (G : F64) (v : Sample8) : F64 := pow P (unitValue v) G

/-- The LUT's contents for a gamma: every entry of the power law (R33, R149, R231). -/
def lutTable (P : Params) (G : F64) : Lut := Vector.ofFn fun v => linPower P G (BitVec.ofFin v)

/-- The refill: the table exists only in the LUT variant (R33, R149, R231). -/
def lutFill (P : Params) (G : F64) : Option Lut :=
  match P.linearizer with
  | .power => none
  | .lut => some (lutTable P G)

/-- LIN: the LUT's entry where there is a LUT (R110), else the power law (R109). -/
def lin (P : Params) (lut : Option Lut) (G : F64) (v : Sample8) : F64 :=
  match lut with
  | some t => t[v.toNat]
  | none => linPower P G v

/-- POSITION: two subtractions and a division, each rounded, in this order (R111). -/
def position (fs fl fu : F64) : F64 := fdiv (fsub fs fl) (fsub fu fl)

/-- SELECT: the threshold comparator (R112). -/
def select (pos n : F64) (lower upper : Sample8) : Sample8 := if fgt pos n then upper else lower

/-- CH: one 16-bit sample to one 8-bit sample (R100, R102). -/
def channel (P : Params) (lut : Option Lut) (L : Level) (G n : F64) (s16 : Sample16) : Sample8 :=
  let s8 := trunc s16
  if s8 = 255 then 255
  else
    let b := bracket P L s8
    select (position (lin P lut G s8) (lin P lut G b.1) (lin P lut G b.2)) n b.1 b.2

/-- The four 16-bit samples of a source pixel: R, G, B, A (R29, R55). -/
def samples (p : SrcPixel) : Sample16 × Sample16 × Sample16 × Sample16 :=
  (p.extractLsb' 0 16, p.extractLsb' 16 16, p.extractLsb' 32 16, p.extractLsb' 48 16)

/-- A destination pixel of its four 8-bit samples, R in the low byte (R56). -/
def packPixel (r g b a : Sample8) : DstPixel := a ++ b ++ g ++ r

/-- PIX: the pixel function (R113). -/
def pix (P : Params) (lut : Option Lut) (L : Level) (G : F64) (c : Coord) (p : SrcPixel) : DstPixel :=
  let n := noiseAt P c
  packPixel (channel P lut L G n (samples p).1) (channel P lut L G n (samples p).2.1)
    (channel P lut L G n (samples p).2.2.1) (channel P lut L G n (samples p).2.2.2)

end Sys2Proof.Machine
end

