-- ==== Sys2Proof/Machine/Memory.lean ====
section
/-! DEFINITION. The image spaces (20_memory.md R55, R56): a list of (key, pixel) cells, keys strictly rising,
one cell for a coordinate somebody has written. A coordinate with no cell reads as `none`: nobody has
written it, and its pixel is the free value `Config.srcInit` or `Config.dstInit` (log entry 6). The pixel is
the smallest addressable unit (R59); QDITH has no byte-addressed data memory (R50). -/

namespace Sys2Proof.Machine

open Sys2Proof

/-- The contents of an image of `w`-bit pixels. -/
abbrev Memory (w : Nat) := List (Nat × BitVec w)

/-- The key of a coordinate: a plain number, different for different coordinates. -/
def coordKey (c : Coord) : Nat := c.y.toNat * 2 ^ 32 + c.x.toNat

/-- The cell at a key, if there is one. -/
def memRead {w : Nat} (m : Memory w) (k : Nat) : Option (BitVec w) :=
  match m with
  | [] => none
  | (a, v) :: rest => if k = a then some v else memRead rest k

/-- Writing a key, in place among rising keys. -/
def memWrite {w : Nat} (m : Memory w) (k : Nat) (v : BitVec w) : Memory w :=
  match m with
  | [] => [(k, v)]
  | (a, u) :: rest =>
    if k < a then (k, v) :: (a, u) :: rest
    else if k = a then (k, v) :: rest
    else (a, u) :: memWrite rest k v

/-- The canonical form: keys strictly rising. No cell equals what an unlisted key reads as, since an unlisted
key reads as no value. -/
def Memory.wf {w : Nat} : Memory w → Bool
  | [] => true
  | (a, _) :: rest => rest.all (fun cell => decide (a < cell.1)) && Memory.wf rest

end Sys2Proof.Machine
end

