-- ==== Sys2Proof/Machine/State.lean ====
section
/-! DEFINITION. The state of QDITH (10_state.md R20 to R37), what the outside world can do to it, why a step
can stop, and the state after reset (70_reset_and_hazards.md R230, R231). -/

namespace Sys2Proof.Machine

open Sys2Proof

/-- What a host read of a destination pixel of a running frame sees (R237, U9): the race admits the value
before the frame and the value the frame writes. -/
inductive RaceRead where
  /-- The value before the frame. -/
  | before
  /-- What the destination holds at this moment: one of the two, unless the host wrote the coordinate during the
  frame (DESIGN CHOICE, log entry 10). -/
  | now
  /-- The value the frame writes. -/
  | frame
  deriving DecidableEq, Repr

/-- An access a byte-addressed platform bridge carries (R51, R57, R58): its address, and its bytes, lowest
address first. On a read only the number of bytes counts. -/
structure BusAccess where
  write : Bool
  addr : Nat
  bytes : List Byte
  deriving DecidableEq, Repr

/-- What happens next: a step of one of the agents. The list of these in the state is the schedule that says
how host, sequencer and platform interleave (R63, R173, U6; log entry 1). -/
inductive Event where
  /-- The host issues a transaction at the register port (R80). -/
  | transaction (tw : Transaction)
  /-- The platform's bridge carries a byte-addressed access (R57). -/
  | bus (access : BusAccess)
  /-- The sequencer takes the pending coordinate number `k` modulo their number (R173). -/
  | sequencer (k : Nat)
  /-- The platform drives `src_present` (R37, R240). -/
  | srcPresent (b : Bool)
  /-- The platform drives `src_hp` (R37, R240). -/
  | srcHp (b : Bool)
  /-- A source pixel changes (R236). -/
  | srcWrite (c : Coord) (p : SrcPixel)
  /-- A read of the source turns out to have a side effect (R236). -/
  | srcSideEffect
  /-- The host reads a destination pixel, outside the register port (R237). -/
  | dstRead (c : Coord) (sees : RaceRead)
  /-- The host writes a destination pixel, outside the register port; `survives` says how the race with a
  running frame ends (R237). -/
  | dstWrite (c : Coord) (v : DstPixel) (survives : Bool)
  /-- The platform maps source and destination onto overlapping storage, or stops doing so (R237). -/
  | overlap (b : Bool)
  /-- The platform resets the block (R230 to R234). -/
  | reset
  deriving DecidableEq, Repr

/-- Why the machine stops with a fault: never. QDITH has no faulting case (93_implementation_defined.md);
raised by nobody, which is safe. -/
inductive Fault where
  deriving DecidableEq, Repr

/-- Why the model has no meaning for a step. -/
inductive Refusal where
  /-- Raised by an arm of `exec` whose instruction has no meaning yet. Safe. -/
  | notModelled (mnemonic : String)
  /-- Raised by `runTransaction` on a word whose OFFSET[2:0] is not zero, which cannot be formed at the port
  (R58, R83, U11). Safe. -/
  | unalignedOffset (offset : BitVec 8)
  /-- Raised by `busEvent` on a bus access that touches the register block but is not one whole aligned
  8-byte slot (R58, U11). Safe. -/
  | narrowAccess (addr size : Nat)
  /-- Raised by CMD.FRAME, and by the platform event during a frame, when source and destination share
  storage (R237, U10). Safe. -/
  | overlappingImages
  deriving DecidableEq, Repr

/-- The state of the machine: what R20 names, the inputs (R37), the two images (R55, R56), the response of the
last read (R80), and, marked MODEL, what the model needs to hold the schedule and the open outcomes. -/
structure State where
  /-- STATUS.DONE (R24). -/
  done : Bool
  /-- STATUS.ERR (R24). -/
  err : Bool
  /-- STATUS.REJ (R24). -/
  rej : Bool
  /-- STATUS.ERRCODE (R24, R200). -/
  errCode : BitVec 4
  /-- IRQEN[2:0]: bit 0 DONE_IE, bit 1 ERR_IE, bit 2 REJ_IE (R26). -/
  irqen : BitVec 3
  /-- LOSS.L (R27). -/
  loss : Level
  /-- GAMMA.G (R28). -/
  gamma : F64
  /-- PIX_IN (R29). -/
  pixIn : Word
  /-- PIX_XY (R30). -/
  pixXy : Word
  /-- PIX_OUT[31:0] (R31). -/
  pixOut : DstPixel
  /-- FRAME_MIN (R32). -/
  frameMin : Word
  /-- FRAME_MAX (R32). -/
  frameMax : Word
  /-- LUT, which exists only in the LUT variant (R33). -/
  lut : Option Lut
  /-- PENDING, the coordinates of the frame not yet written, without repeats (R34). -/
  pending : List Coord
  /-- The input `src_present` (R37). -/
  srcPresent : Bool
  /-- The input `src_hp` (R37). -/
  srcHp : Bool
  /-- The source image (R55). -/
  src : Memory 64
  /-- The destination image (R56). -/
  dst : Memory 32
  /-- The response of the last read, none before the first (R80). -/
  resp : Option Word
  /-- MODEL: what happens next, first event first (log entry 1). -/
  schedule : List Event
  /-- MODEL: whether source and destination share storage (R237; log entry 11). -/
  overlap : Bool
  /-- MODEL: the destination when the running frame was accepted (R237; log entry 10). -/
  preFrame : Memory 32
  /-- MODEL: the frame coordinates at which a host write survives the frame (R237; log entry 10). -/
  kept : List Coord
  /-- MODEL: the draw of the running frame's last breach of R236, none while the host keeps the duty (log
  entry 9). -/
  breach : Option Nat
  /-- MODEL: how many free values have been drawn (log entries 2 and 9). -/
  draws : Nat
  /-- MODEL: what the host's last read of a destination pixel saw (R237; log entry 10). -/
  hostPixel : Option DstPixel
  deriving DecidableEq, Repr

/-- The machine right after reset (R230, R231), with no source bound (log entry 5), nothing known of the
images (log entry 6) and nothing scheduled (log entry 17). -/
def State.reset : State where
  done := false
  err := false
  rej := false
  errCode := 0
  irqen := 0
  loss := 0
  gamma := gammaDefault
  pixIn := 0
  pixXy := 0
  pixOut := 0
  frameMin := 0
  frameMax := 0
  lut := lutFill Config.params gammaDefault
  pending := []
  srcPresent := false
  srcHp := false
  src := []
  dst := []
  resp := none
  schedule := []
  overlap := false
  preFrame := []
  kept := []
  breach := none
  draws := 0
  hostPixel := none

end Sys2Proof.Machine
end

