-- ==== Sys2Proof/Machine/Operands.lean ====
section
/-! DEFINITION. Operand assembly (30_encoding.md R82): what each written DATA word becomes, and the fields of
the stored registers (10_state.md R26 to R32). No operand is scaled or shifted (R82). -/

namespace Sys2Proof.Machine

open Sys2Proof

/-- WR LOSS: the whole 64-bit word, read as signed, clamped to 0..7 (R147). -/
def clampLoss (data : Word) : Level :=
  BitVec.ofInt 3 (if data.toInt < 0 then 0 else if 7 < data.toInt then 7 else data.toInt)

/-- WR GAMMA: the word if it is a binary64 value greater than `+0.0`, else GAMMA_DEFAULT (R149). -/
def gammaOf (data : Word) : F64 := if fgt data fzero then data else gammaDefault

/-- WR IRQEN: `DATA[2:0]`, the rest ignored (R145). -/
def irqenOf (data : Word) : BitVec 3 := data.extractLsb' 0 3

/-- WR STATUS: the clear mask `DATA[3:1]` (R82, R143). -/
def clearsDone (data : Word) : Bool := data.getLsbD 1

/-- WR STATUS: the clear mask `DATA[3:1]` (R82, R143). -/
def clearsErr (data : Word) : Bool := data.getLsbD 2

/-- WR STATUS: the clear mask `DATA[3:1]` (R82, R143). -/
def clearsRej (data : Word) : Bool := data.getLsbD 3

/-- The coordinate a 64-bit register holds: x in `[31:0]`, y in `[63:32]` (R30, R32, R82). -/
def coordOf (reg : Word) : Coord := ⟨reg.extractLsb' 0 32, reg.extractLsb' 32 32⟩

/-- `n` coordinates of one axis, from `lo` upwards. -/
def axisFrom (lo : BitVec 32) (n : Nat) : List (BitVec 32) :=
  match n with
  | 0 => []
  | k + 1 => lo :: axisFrom (lo + 1) k

/-- The coordinates `v` of one axis with `lo <= v < hi`, compared as signed (R32, R172). -/
def axis (lo hi : BitVec 32) : List (BitVec 32) := axisFrom lo (hi.toInt - lo.toInt).toNat

/-- The half-open rectangle of two corners (R32, R172), row by row: a set, held as a list without
repeats. -/
def rectangle (min max : Word) : List Coord :=
  (axis (coordOf min).y (coordOf max).y).flatMap fun y =>
    (axis (coordOf min).x (coordOf max).x).map fun x => ⟨x, y⟩

/-- Whether a coordinate lies in the rectangle of FRAME_MIN and FRAME_MAX (R32): signed compares. -/
def inFrame (s : State) (c : Coord) : Bool :=
  decide ((coordOf s.frameMin).x.toInt ≤ c.x.toInt) && decide (c.x.toInt < (coordOf s.frameMax).x.toInt) &&
    decide ((coordOf s.frameMin).y.toInt ≤ c.y.toInt) && decide (c.y.toInt < (coordOf s.frameMax).y.toInt)

/-- Byte `j` of a 64-bit slot: bits `[8j+7:8j]` (R57). -/
def slotByte (v : Word) (j : Nat) : Byte := v.extractLsb' (8 * j) 8

/-- The 64-bit word of a slot's bytes, lowest address first (R57). -/
def joinBytes (bytes : List Byte) : Word :=
  match bytes with
  | [] => 0
  | b :: rest => joinBytes rest <<< 8 ||| b.zeroExtend 64

end Sys2Proof.Machine
end

