-- ==== Sys2Proof/Machine/Flags.lean ====
section
/-! DEFINITION. What is computed from the flags: BUSY (10_state.md R25), the STATUS word (R24, R142), the ID
word (R23), and the interrupt line (R38, R206). -/

namespace Sys2Proof.Machine

open Sys2Proof

/-- STATUS.BUSY: the pending set is not empty (R25). -/
def busy (s : State) : Bool := !s.pending.isEmpty

/-- The STATUS word a read returns (R24, R142). -/
def statusWord (s : State) : Word :=
  (BitVec.ofBool s.srcHp ++ BitVec.ofBool s.srcPresent ++ 0#4 ++ s.errCode ++ 0#4 ++ BitVec.ofBool s.rej ++
    BitVec.ofBool s.err ++ BitVec.ofBool s.done ++ BitVec.ofBool (busy s)).zeroExtend 64

/-- The ID word: REV 0x01 and the VARIANT bit (R23, R161). -/
def idWord (P : Params) : Word :=
  (BitVec.ofBool (P.linearizer == .lut) ++ 0x01#8).zeroExtend 64

/-- The level of the output `irq` (R38, R206). -/
def irq (s : State) : Bool :=
  (s.done && s.irqen.getLsbD 0) || (s.err && s.irqen.getLsbD 1) || (s.rej && s.irqen.getLsbD 2)

end Sys2Proof.Machine
end

