-- ==== Sys2Proof/Machine/Ops.lean ====
section
/-! DEFINITION. The named operations the meanings share: the response of a read (30_encoding.md R80), recording
an error (60_exceptions.md R201), refusing a write (R204) and the busy guard (41_register_ops.md R141), the
host's "return" (R143, R208), and the accesses to the two image spaces (20_memory.md R55, R56). -/

namespace Sys2Proof.Machine

open Sys2Proof

/-- The three outcomes of a step of this machine. -/
abbrev Result := Host.Outcome State Fault Refusal

/-- Answering a read: the response word, and nothing else (R80, R140). -/
def respond (v : Word) (s : State) : State := { s with resp := some v }

/-- The error codes (R200). -/
def codeNoSource : BitVec 4 := 1

/-- The error codes (R200). -/
def codeNoCapability : BitVec 4 := 2

/-- The error codes (R200). -/
def codeBadCmd : BitVec 4 := 3

/-- `raise Error(code)`: the whole of QDITH's trap entry (R201, R207). -/
def raiseError (code : BitVec 4) (s : State) : State := { s with err := true, errCode := code }

/-- `reject()` (R204). -/
def reject (s : State) : State := { s with rej := true }

/-- The W1C write of STATUS, the host's "return" (R143, R208). -/
def clearStatus (data : Word) (s : State) : State :=
  { s with
    done := s.done && !clearsDone data
    err := s.err && !clearsErr data
    errCode := if clearsErr data then 0 else s.errCode
    rej := s.rej && !clearsRej data }

/-- The busy guard of the writes to LOSS, GAMMA, FRAME_MIN, FRAME_MAX and CMD (R141). -/
def guarded (s : State) (write : State → Result) : Result :=
  if busy s then .next (reject s) else write s

/-- The GAMMA write, with the refill that is part of it (R149). -/
def storeGamma (P : Params) (data : Word) (s : State) : State :=
  { s with gamma := gammaOf data, lut := lutFill P (gammaOf data) }

/-- The pixel a source image holds (R55): the cell, or what nobody has written (log entry 6). -/
def srcAt (m : Memory 64) (c : Coord) : SrcPixel := (memRead m (coordKey c)).getD (Config.srcInit c)

/-- The pixel a destination image holds (R56): the cell, or what nobody has written (log entry 6). -/
def dstAt (m : Memory 32) (c : Coord) : DstPixel := (memRead m (coordKey c)).getD (Config.dstInit c)

/-- `DstWrite(x, y, v)`: one whole pixel (R56, R59). -/
def dstStore (c : Coord) (v : DstPixel) (s : State) : State :=
  { s with dst := memWrite s.dst (coordKey c) v }

/-- A change of one source pixel (R236). -/
def srcStore (c : Coord) (p : SrcPixel) (s : State) : State :=
  { s with src := memWrite s.src (coordKey c) p }

/-- The pixel function on the registers of a command: `L = LOSS`, `G = GAMMA` (R115). -/
def pixOf (P : Params) (s : State) (c : Coord) (p : SrcPixel) : DstPixel := pix P s.lut s.loss s.gamma c p

/-- The end of a frame: DONE, and the model's record of the frame dropped (R174). -/
def finishFrame (s : State) : State :=
  { s with done := true, preFrame := [], kept := [], breach := none }

/-- The start of a frame on a rectangle (R172): DONE cleared (DEDUCED, log entry 13: R172 says so, R39 and R205
word it otherwise), PENDING filled, and the destination before the frame recorded for the race of R237. -/
def startFrame (s : State) : State :=
  { s with
    done := false
    pending := rectangle s.frameMin s.frameMax
    preFrame := s.dst
    kept := []
    breach := none }

/-- Reset (R230 to R234): every register, PENDING and the LUT at the reset value; the images, the inputs and
what the outside will do next stay (R230, R232, R233; log entry 14). -/
def resetBlock (s : State) : State :=
  { State.reset with
    srcPresent := s.srcPresent
    srcHp := s.srcHp
    src := s.src
    dst := s.dst
    schedule := s.schedule
    overlap := s.overlap
    draws := s.draws
    hostPixel := s.hostPixel }

end Sys2Proof.Machine
end

