-- ==== Sys2Proof/Machine/Commands.lean ====
section
/-! DEFINITION. The commands (42_commands.md R170 to R175). Every CMD write is busy-guarded first (R170, R203);
which command a word is, the decoder says (R84). -/

namespace Sys2Proof.Machine

open Sys2Proof

/-- PIXEL: `PIX_OUT <- PIX(L, G, x, y, PIX_IN)` (R171). -/
def pixelCommand (P : Params) (s : State) : State :=
  { s with pixOut := pixOf P s (coordOf s.pixXy) s.pixIn }

/-- The acceptance of a FRAME (R172): an empty rectangle completes at once. -/
def acceptFrame (s : State) : State :=
  let s' := startFrame s
  if busy s' then s' else finishFrame s'

/-- FRAME (R172): the source is checked first, then the capability (R203); a frame with pixels whose images
share storage is refused (R237, U10; log entry 11). -/
def frameCommand (s : State) : Result :=
  if !s.srcPresent then .next (raiseError codeNoSource s)
  else if !s.srcHp then .next (raiseError codeNoCapability s)
  else if s.overlap && busy (startFrame s) then .refused .overlappingImages
  else .next (acceptFrame s)

/-- CMD.PIXEL (R171). -/
def execCmdPixel (s : State) : Result :=
  guarded s fun s => .next (pixelCommand Config.params s)

/-- CMD.FRAME (R172). -/
def execCmdFrame (s : State) : Result := guarded s frameCommand

/-- CMD.RESERVED: BAD_CMD, whatever the word (R175). -/
def execCmdReserved (_word : Word) (s : State) : Result :=
  guarded s fun s => .next (raiseError codeBadCmd s)

end Sys2Proof.Machine
end

