-- ==== Sys2Proof/Machine/Registers.lean ====
section
/-! DEFINITION. The register transactions, one meaning per instruction (41_register_ops.md). Every read is
accepted whether BUSY is 0 or 1 and changes no register (R140); the writes to LOSS, GAMMA, FRAME_MIN and
FRAME_MAX are busy-guarded (R141). -/

namespace Sys2Proof.Machine

open Sys2Proof

/-- RD ID (R161). -/
def execRdId (s : State) : Result := .next (respond (idWord Config.params) s)

/-- WR ID: no effect (R162). -/
def execWrId (_data : Word) (s : State) : Result := .next s

/-- RD STATUS: the read clears nothing (R142). -/
def execRdStatus (s : State) : Result := .next (respond (statusWord s) s)

/-- WR STATUS: write one to clear, never refused (R143). -/
def execWrStatus (data : Word) (s : State) : Result := .next (clearStatus data s)

/-- RD IRQEN (R144). -/
def execRdIrqen (s : State) : Result := .next (respond (s.irqen.zeroExtend 64) s)

/-- WR IRQEN, never refused (R145). -/
def execWrIrqen (data : Word) (s : State) : Result := .next { s with irqen := irqenOf data }

/-- RD LOSS (R146). -/
def execRdLoss (s : State) : Result := .next (respond (s.loss.zeroExtend 64) s)

/-- WR LOSS: guarded, clamped (R147). -/
def execWrLoss (data : Word) (s : State) : Result :=
  guarded s fun s => .next { s with loss := clampLoss data }

/-- RD GAMMA: the stored value, after replacement (R148). -/
def execRdGamma (s : State) : Result := .next (respond s.gamma s)

/-- WR GAMMA: guarded, replaced unless greater than zero, with the LUT refill (R149). -/
def execWrGamma (data : Word) (s : State) : Result :=
  guarded s fun s => .next (storeGamma Config.params data s)

/-- RD PIX_IN (R150). -/
def execRdPixIn (s : State) : Result := .next (respond s.pixIn s)

/-- WR PIX_IN, never refused (R151). -/
def execWrPixIn (data : Word) (s : State) : Result := .next { s with pixIn := data }

/-- RD PIX_XY (R152). -/
def execRdPixXy (s : State) : Result := .next (respond s.pixXy s)

/-- WR PIX_XY, never refused (R153). -/
def execWrPixXy (data : Word) (s : State) : Result := .next { s with pixXy := data }

/-- RD PIX_OUT: the upper half reads as zero (R154, R31). -/
def execRdPixOut (s : State) : Result := .next (respond (s.pixOut.zeroExtend 64) s)

/-- WR PIX_OUT: no effect (R155). -/
def execWrPixOut (_data : Word) (s : State) : Result := .next s

/-- RD FRAME_MIN (R156). -/
def execRdFrameMin (s : State) : Result := .next (respond s.frameMin s)

/-- WR FRAME_MIN, guarded (R157). -/
def execWrFrameMin (data : Word) (s : State) : Result :=
  guarded s fun s => .next { s with frameMin := data }

/-- RD FRAME_MAX (R158). -/
def execRdFrameMax (s : State) : Result := .next (respond s.frameMax s)

/-- WR FRAME_MAX, guarded (R159). -/
def execWrFrameMax (data : Word) (s : State) : Result :=
  guarded s fun s => .next { s with frameMax := data }

/-- RD CMD: always zero, CMD has no storage (R160, R35). -/
def execRdCmd (s : State) : Result := .next (respond 0 s)

end Sys2Proof.Machine
end

