-- ==== Sys2Proof/Machine/Reserved.lean ====
section
/-! DEFINITION. The 21 reserved slots 0x58 to 0xF8: a read gives 0, a write has no effect, neither is ever
refused or an error (41_register_ops.md R163). One meaning per row of the opcode table. -/

namespace Sys2Proof.Machine

open Sys2Proof

/-- A read of a reserved slot (R163). -/
def readReserved (s : State) : Result := .next (respond 0 s)

/-- A write of a reserved slot (R163). -/
def writeReserved (_data : Word) (s : State) : Result := .next s

/-- RD.RSVD+0x58 (R163). -/
def execRdRsvd58 (s : State) : Result := readReserved s

/-- WR.RSVD+0x58 (R163). -/
def execWrRsvd58 (data : Word) (s : State) : Result := writeReserved data s

/-- RD.RSVD+0x60 (R163). -/
def execRdRsvd60 (s : State) : Result := readReserved s

/-- WR.RSVD+0x60 (R163). -/
def execWrRsvd60 (data : Word) (s : State) : Result := writeReserved data s

/-- RD.RSVD+0x68 (R163). -/
def execRdRsvd68 (s : State) : Result := readReserved s

/-- WR.RSVD+0x68 (R163). -/
def execWrRsvd68 (data : Word) (s : State) : Result := writeReserved data s

/-- RD.RSVD+0x70 (R163). -/
def execRdRsvd70 (s : State) : Result := readReserved s

/-- WR.RSVD+0x70 (R163). -/
def execWrRsvd70 (data : Word) (s : State) : Result := writeReserved data s

/-- RD.RSVD+0x78 (R163). -/
def execRdRsvd78 (s : State) : Result := readReserved s

/-- WR.RSVD+0x78 (R163). -/
def execWrRsvd78 (data : Word) (s : State) : Result := writeReserved data s

/-- RD.RSVD+0x80 (R163). -/
def execRdRsvd80 (s : State) : Result := readReserved s

/-- WR.RSVD+0x80 (R163). -/
def execWrRsvd80 (data : Word) (s : State) : Result := writeReserved data s

/-- RD.RSVD+0x88 (R163). -/
def execRdRsvd88 (s : State) : Result := readReserved s

/-- WR.RSVD+0x88 (R163). -/
def execWrRsvd88 (data : Word) (s : State) : Result := writeReserved data s

/-- RD.RSVD+0x90 (R163). -/
def execRdRsvd90 (s : State) : Result := readReserved s

/-- WR.RSVD+0x90 (R163). -/
def execWrRsvd90 (data : Word) (s : State) : Result := writeReserved data s

/-- RD.RSVD+0x98 (R163). -/
def execRdRsvd98 (s : State) : Result := readReserved s

/-- WR.RSVD+0x98 (R163). -/
def execWrRsvd98 (data : Word) (s : State) : Result := writeReserved data s

/-- RD.RSVD+0xA0 (R163). -/
def execRdRsvdA0 (s : State) : Result := readReserved s

/-- WR.RSVD+0xA0 (R163). -/
def execWrRsvdA0 (data : Word) (s : State) : Result := writeReserved data s

/-- RD.RSVD+0xA8 (R163). -/
def execRdRsvdA8 (s : State) : Result := readReserved s

/-- WR.RSVD+0xA8 (R163). -/
def execWrRsvdA8 (data : Word) (s : State) : Result := writeReserved data s

/-- RD.RSVD+0xB0 (R163). -/
def execRdRsvdB0 (s : State) : Result := readReserved s

/-- WR.RSVD+0xB0 (R163). -/
def execWrRsvdB0 (data : Word) (s : State) : Result := writeReserved data s

/-- RD.RSVD+0xB8 (R163). -/
def execRdRsvdB8 (s : State) : Result := readReserved s

/-- WR.RSVD+0xB8 (R163). -/
def execWrRsvdB8 (data : Word) (s : State) : Result := writeReserved data s

/-- RD.RSVD+0xC0 (R163). -/
def execRdRsvdC0 (s : State) : Result := readReserved s

/-- WR.RSVD+0xC0 (R163). -/
def execWrRsvdC0 (data : Word) (s : State) : Result := writeReserved data s

/-- RD.RSVD+0xC8 (R163). -/
def execRdRsvdC8 (s : State) : Result := readReserved s

/-- WR.RSVD+0xC8 (R163). -/
def execWrRsvdC8 (data : Word) (s : State) : Result := writeReserved data s

/-- RD.RSVD+0xD0 (R163). -/
def execRdRsvdD0 (s : State) : Result := readReserved s

/-- WR.RSVD+0xD0 (R163). -/
def execWrRsvdD0 (data : Word) (s : State) : Result := writeReserved data s

/-- RD.RSVD+0xD8 (R163). -/
def execRdRsvdD8 (s : State) : Result := readReserved s

/-- WR.RSVD+0xD8 (R163). -/
def execWrRsvdD8 (data : Word) (s : State) : Result := writeReserved data s

/-- RD.RSVD+0xE0 (R163). -/
def execRdRsvdE0 (s : State) : Result := readReserved s

/-- WR.RSVD+0xE0 (R163). -/
def execWrRsvdE0 (data : Word) (s : State) : Result := writeReserved data s

/-- RD.RSVD+0xE8 (R163). -/
def execRdRsvdE8 (s : State) : Result := readReserved s

/-- WR.RSVD+0xE8 (R163). -/
def execWrRsvdE8 (data : Word) (s : State) : Result := writeReserved data s

/-- RD.RSVD+0xF0 (R163). -/
def execRdRsvdF0 (s : State) : Result := readReserved s

/-- WR.RSVD+0xF0 (R163). -/
def execWrRsvdF0 (data : Word) (s : State) : Result := writeReserved data s

/-- RD.RSVD+0xF8 (R163). -/
def execRdRsvdF8 (s : State) : Result := readReserved s

/-- WR.RSVD+0xF8 (R163). -/
def execWrRsvdF8 (data : Word) (s : State) : Result := writeReserved data s

end Sys2Proof.Machine
end

