-- ==== Sys2Proof/Syntax.lean ====
section
/-! DEFINITION. The host transactions of QDITH: one constructor per row of spec/opcode_table.json (66 rows,
30_encoding.md R80 to R84). A read carries nothing, since its DATA is ignored (R80). A write carries the
whole DATA word; its operands are assembled from it in Machine/Operands.lean (R82). -/

namespace Sys2Proof

/-- One host transaction. -/
inductive Instr where
  /-- RD.ID (R161). -/
  | rdId
  /-- WR.ID (R162). -/
  | wrId (data : Word)
  /-- RD.STATUS (R142). -/
  | rdStatus
  /-- WR.STATUS (R143). -/
  | wrStatus (data : Word)
  /-- RD.IRQEN (R144). -/
  | rdIrqen
  /-- WR.IRQEN (R145). -/
  | wrIrqen (data : Word)
  /-- RD.LOSS (R146). -/
  | rdLoss
  /-- WR.LOSS (R147). -/
  | wrLoss (data : Word)
  /-- RD.GAMMA (R148). -/
  | rdGamma
  /-- WR.GAMMA (R149). -/
  | wrGamma (data : Word)
  /-- RD.PIX_IN (R150). -/
  | rdPixIn
  /-- WR.PIX_IN (R151). -/
  | wrPixIn (data : Word)
  /-- RD.PIX_XY (R152). -/
  | rdPixXy
  /-- WR.PIX_XY (R153). -/
  | wrPixXy (data : Word)
  /-- RD.PIX_OUT (R154). -/
  | rdPixOut
  /-- WR.PIX_OUT (R155). -/
  | wrPixOut (data : Word)
  /-- RD.FRAME_MIN (R156). -/
  | rdFrameMin
  /-- WR.FRAME_MIN (R157). -/
  | wrFrameMin (data : Word)
  /-- RD.FRAME_MAX (R158). -/
  | rdFrameMax
  /-- WR.FRAME_MAX (R159). -/
  | wrFrameMax (data : Word)
  /-- RD.CMD (R160). -/
  | rdCmd
  /-- CMD.PIXEL (R171). -/
  | cmdPixel
  /-- CMD.FRAME (R172). -/
  | cmdFrame
  /-- CMD.RESERVED (R175). -/
  | cmdReserved (word : Word)
  /-- RD.RSVD+0x58 (R163). -/
  | rdRsvd58
  /-- WR.RSVD+0x58 (R163). -/
  | wrRsvd58 (data : Word)
  /-- RD.RSVD+0x60 (R163). -/
  | rdRsvd60
  /-- WR.RSVD+0x60 (R163). -/
  | wrRsvd60 (data : Word)
  /-- RD.RSVD+0x68 (R163). -/
  | rdRsvd68
  /-- WR.RSVD+0x68 (R163). -/
  | wrRsvd68 (data : Word)
  /-- RD.RSVD+0x70 (R163). -/
  | rdRsvd70
  /-- WR.RSVD+0x70 (R163). -/
  | wrRsvd70 (data : Word)
  /-- RD.RSVD+0x78 (R163). -/
  | rdRsvd78
  /-- WR.RSVD+0x78 (R163). -/
  | wrRsvd78 (data : Word)
  /-- RD.RSVD+0x80 (R163). -/
  | rdRsvd80
  /-- WR.RSVD+0x80 (R163). -/
  | wrRsvd80 (data : Word)
  /-- RD.RSVD+0x88 (R163). -/
  | rdRsvd88
  /-- WR.RSVD+0x88 (R163). -/
  | wrRsvd88 (data : Word)
  /-- RD.RSVD+0x90 (R163). -/
  | rdRsvd90
  /-- WR.RSVD+0x90 (R163). -/
  | wrRsvd90 (data : Word)
  /-- RD.RSVD+0x98 (R163). -/
  | rdRsvd98
  /-- WR.RSVD+0x98 (R163). -/
  | wrRsvd98 (data : Word)
  /-- RD.RSVD+0xA0 (R163). -/
  | rdRsvdA0
  /-- WR.RSVD+0xA0 (R163). -/
  | wrRsvdA0 (data : Word)
  /-- RD.RSVD+0xA8 (R163). -/
  | rdRsvdA8
  /-- WR.RSVD+0xA8 (R163). -/
  | wrRsvdA8 (data : Word)
  /-- RD.RSVD+0xB0 (R163). -/
  | rdRsvdB0
  /-- WR.RSVD+0xB0 (R163). -/
  | wrRsvdB0 (data : Word)
  /-- RD.RSVD+0xB8 (R163). -/
  | rdRsvdB8
  /-- WR.RSVD+0xB8 (R163). -/
  | wrRsvdB8 (data : Word)
  /-- RD.RSVD+0xC0 (R163). -/
  | rdRsvdC0
  /-- WR.RSVD+0xC0 (R163). -/
  | wrRsvdC0 (data : Word)
  /-- RD.RSVD+0xC8 (R163). -/
  | rdRsvdC8
  /-- WR.RSVD+0xC8 (R163). -/
  | wrRsvdC8 (data : Word)
  /-- RD.RSVD+0xD0 (R163). -/
  | rdRsvdD0
  /-- WR.RSVD+0xD0 (R163). -/
  | wrRsvdD0 (data : Word)
  /-- RD.RSVD+0xD8 (R163). -/
  | rdRsvdD8
  /-- WR.RSVD+0xD8 (R163). -/
  | wrRsvdD8 (data : Word)
  /-- RD.RSVD+0xE0 (R163). -/
  | rdRsvdE0
  /-- WR.RSVD+0xE0 (R163). -/
  | wrRsvdE0 (data : Word)
  /-- RD.RSVD+0xE8 (R163). -/
  | rdRsvdE8
  /-- WR.RSVD+0xE8 (R163). -/
  | wrRsvdE8 (data : Word)
  /-- RD.RSVD+0xF0 (R163). -/
  | rdRsvdF0
  /-- WR.RSVD+0xF0 (R163). -/
  | wrRsvdF0 (data : Word)
  /-- RD.RSVD+0xF8 (R163). -/
  | rdRsvdF8
  /-- WR.RSVD+0xF8 (R163). -/
  | wrRsvdF8 (data : Word)
  deriving DecidableEq, Repr

end Sys2Proof
end

