-- ==== Sys2Proof/Machine/Dispatch.lean ====
section
/-! DEFINITION. The dispatch: one arm per row of spec/opcode_table.json. -/

namespace Sys2Proof.Machine

open Sys2Proof

def exec (i : Instr) (s : State) : Host.Outcome State Fault Refusal :=
  match i with
  | .rdId => Sys2Proof.Machine.execRdId s
  | .wrId data => Sys2Proof.Machine.execWrId data s
  | .rdStatus => Sys2Proof.Machine.execRdStatus s
  | .wrStatus data => Sys2Proof.Machine.execWrStatus data s
  | .rdIrqen => Sys2Proof.Machine.execRdIrqen s
  | .wrIrqen data => Sys2Proof.Machine.execWrIrqen data s
  | .rdLoss => Sys2Proof.Machine.execRdLoss s
  | .wrLoss data => Sys2Proof.Machine.execWrLoss data s
  | .rdGamma => Sys2Proof.Machine.execRdGamma s
  | .wrGamma data => Sys2Proof.Machine.execWrGamma data s
  | .rdPixIn => Sys2Proof.Machine.execRdPixIn s
  | .wrPixIn data => Sys2Proof.Machine.execWrPixIn data s
  | .rdPixXy => Sys2Proof.Machine.execRdPixXy s
  | .wrPixXy data => Sys2Proof.Machine.execWrPixXy data s
  | .rdPixOut => Sys2Proof.Machine.execRdPixOut s
  | .wrPixOut data => Sys2Proof.Machine.execWrPixOut data s
  | .rdFrameMin => Sys2Proof.Machine.execRdFrameMin s
  | .wrFrameMin data => Sys2Proof.Machine.execWrFrameMin data s
  | .rdFrameMax => Sys2Proof.Machine.execRdFrameMax s
  | .wrFrameMax data => Sys2Proof.Machine.execWrFrameMax data s
  | .rdCmd => Sys2Proof.Machine.execRdCmd s
  | .cmdPixel => Sys2Proof.Machine.execCmdPixel s
  | .cmdFrame => Sys2Proof.Machine.execCmdFrame s
  | .cmdReserved word => Sys2Proof.Machine.execCmdReserved word s
  | .rdRsvd58 => Sys2Proof.Machine.execRdRsvd58 s
  | .wrRsvd58 data => Sys2Proof.Machine.execWrRsvd58 data s
  | .rdRsvd60 => Sys2Proof.Machine.execRdRsvd60 s
  | .wrRsvd60 data => Sys2Proof.Machine.execWrRsvd60 data s
  | .rdRsvd68 => Sys2Proof.Machine.execRdRsvd68 s
  | .wrRsvd68 data => Sys2Proof.Machine.execWrRsvd68 data s
  | .rdRsvd70 => Sys2Proof.Machine.execRdRsvd70 s
  | .wrRsvd70 data => Sys2Proof.Machine.execWrRsvd70 data s
  | .rdRsvd78 => Sys2Proof.Machine.execRdRsvd78 s
  | .wrRsvd78 data => Sys2Proof.Machine.execWrRsvd78 data s
  | .rdRsvd80 => Sys2Proof.Machine.execRdRsvd80 s
  | .wrRsvd80 data => Sys2Proof.Machine.execWrRsvd80 data s
  | .rdRsvd88 => Sys2Proof.Machine.execRdRsvd88 s
  | .wrRsvd88 data => Sys2Proof.Machine.execWrRsvd88 data s
  | .rdRsvd90 => Sys2Proof.Machine.execRdRsvd90 s
  | .wrRsvd90 data => Sys2Proof.Machine.execWrRsvd90 data s
  | .rdRsvd98 => Sys2Proof.Machine.execRdRsvd98 s
  | .wrRsvd98 data => Sys2Proof.Machine.execWrRsvd98 data s
  | .rdRsvdA0 => Sys2Proof.Machine.execRdRsvdA0 s
  | .wrRsvdA0 data => Sys2Proof.Machine.execWrRsvdA0 data s
  | .rdRsvdA8 => Sys2Proof.Machine.execRdRsvdA8 s
  | .wrRsvdA8 data => Sys2Proof.Machine.execWrRsvdA8 data s
  | .rdRsvdB0 => Sys2Proof.Machine.execRdRsvdB0 s
  | .wrRsvdB0 data => Sys2Proof.Machine.execWrRsvdB0 data s
  | .rdRsvdB8 => Sys2Proof.Machine.execRdRsvdB8 s
  | .wrRsvdB8 data => Sys2Proof.Machine.execWrRsvdB8 data s
  | .rdRsvdC0 => Sys2Proof.Machine.execRdRsvdC0 s
  | .wrRsvdC0 data => Sys2Proof.Machine.execWrRsvdC0 data s
  | .rdRsvdC8 => Sys2Proof.Machine.execRdRsvdC8 s
  | .wrRsvdC8 data => Sys2Proof.Machine.execWrRsvdC8 data s
  | .rdRsvdD0 => Sys2Proof.Machine.execRdRsvdD0 s
  | .wrRsvdD0 data => Sys2Proof.Machine.execWrRsvdD0 data s
  | .rdRsvdD8 => Sys2Proof.Machine.execRdRsvdD8 s
  | .wrRsvdD8 data => Sys2Proof.Machine.execWrRsvdD8 data s
  | .rdRsvdE0 => Sys2Proof.Machine.execRdRsvdE0 s
  | .wrRsvdE0 data => Sys2Proof.Machine.execWrRsvdE0 data s
  | .rdRsvdE8 => Sys2Proof.Machine.execRdRsvdE8 s
  | .wrRsvdE8 data => Sys2Proof.Machine.execWrRsvdE8 data s
  | .rdRsvdF0 => Sys2Proof.Machine.execRdRsvdF0 s
  | .wrRsvdF0 data => Sys2Proof.Machine.execWrRsvdF0 data s
  | .rdRsvdF8 => Sys2Proof.Machine.execRdRsvdF8 s
  | .wrRsvdF8 data => Sys2Proof.Machine.execWrRsvdF8 data s

end Sys2Proof.Machine
end

