-- ==== Sys2Proof/WellFormed.lean ====
section
/-! DEFINITION. Which instruction terms stand for a transaction word: all of them, except a CMD.RESERVED
term whose word is the word of another command (30_encoding.md R83: the row applies exactly when neither
CMD.PIXEL nor CMD.FRAME does). -/

namespace Sys2Proof

/-- The command word of PIXEL (R84). -/
def pixelWord : Word := 0x1

/-- The command word of FRAME (R84). -/
def frameWord : Word := 0x2

/-- The check that an instruction term is the decoding of some transaction word (R83, R84). -/
def Instr.wf : Instr → Bool
  | .rdId => true
  | .wrId _ => true
  | .rdStatus => true
  | .wrStatus _ => true
  | .rdIrqen => true
  | .wrIrqen _ => true
  | .rdLoss => true
  | .wrLoss _ => true
  | .rdGamma => true
  | .wrGamma _ => true
  | .rdPixIn => true
  | .wrPixIn _ => true
  | .rdPixXy => true
  | .wrPixXy _ => true
  | .rdPixOut => true
  | .wrPixOut _ => true
  | .rdFrameMin => true
  | .wrFrameMin _ => true
  | .rdFrameMax => true
  | .wrFrameMax _ => true
  | .rdCmd => true
  | .cmdPixel => true
  | .cmdFrame => true
  | .cmdReserved word => word != pixelWord && word != frameWord
  | .rdRsvd58 => true
  | .wrRsvd58 _ => true
  | .rdRsvd60 => true
  | .wrRsvd60 _ => true
  | .rdRsvd68 => true
  | .wrRsvd68 _ => true
  | .rdRsvd70 => true
  | .wrRsvd70 _ => true
  | .rdRsvd78 => true
  | .wrRsvd78 _ => true
  | .rdRsvd80 => true
  | .wrRsvd80 _ => true
  | .rdRsvd88 => true
  | .wrRsvd88 _ => true
  | .rdRsvd90 => true
  | .wrRsvd90 _ => true
  | .rdRsvd98 => true
  | .wrRsvd98 _ => true
  | .rdRsvdA0 => true
  | .wrRsvdA0 _ => true
  | .rdRsvdA8 => true
  | .wrRsvdA8 _ => true
  | .rdRsvdB0 => true
  | .wrRsvdB0 _ => true
  | .rdRsvdB8 => true
  | .wrRsvdB8 _ => true
  | .rdRsvdC0 => true
  | .wrRsvdC0 _ => true
  | .rdRsvdC8 => true
  | .wrRsvdC8 _ => true
  | .rdRsvdD0 => true
  | .wrRsvdD0 _ => true
  | .rdRsvdD8 => true
  | .wrRsvdD8 _ => true
  | .rdRsvdE0 => true
  | .wrRsvdE0 _ => true
  | .rdRsvdE8 => true
  | .wrRsvdE8 _ => true
  | .rdRsvdF0 => true
  | .wrRsvdF0 _ => true
  | .rdRsvdF8 => true
  | .wrRsvdF8 _ => true

end Sys2Proof
end

