-- ==== Sys2Proof/Decode.lean ====
section
/-! DEFINITION. The decoder, total on every 73-bit word, and the encoder (30_encoding.md R80, R81, R83, R84).
The only words refused are those whose OFFSET[2:0] is not zero: they cannot be formed at the port (R58,
R83). -/

namespace Sys2Proof

/-- Why a word is no transaction. -/
inductive DecodeError where
  /-- OFFSET[2:0] is not zero (R58, R83). -/
  | unalignedOffset (offset : BitVec 8)
  deriving DecidableEq, Repr

/-- TW[72], WE: true for a write (R80). -/
def Transaction.we (tw : Transaction) : Bool := tw.getLsbD 72

/-- TW[71:64], OFFSET (R80). -/
def Transaction.offset (tw : Transaction) : BitVec 8 := tw.extractLsb' 64 8

/-- TW[63:0], DATA (R80). -/
def Transaction.data (tw : Transaction) : Word := tw.extractLsb' 0 64

/-- The transaction word of its three fields (R80). -/
def Transaction.mk (we : Bool) (offset : BitVec 8) (data : Word) : Transaction :=
  BitVec.ofBool we ++ offset ++ data

/-- The reads of the register map, by offset (R81, R83). -/
def decodeRead (offset : BitVec 8) : Except DecodeError Instr :=
  match offset.toNat with
  | 0x00 => .ok .rdId
  | 0x08 => .ok .rdStatus
  | 0x10 => .ok .rdIrqen
  | 0x18 => .ok .rdLoss
  | 0x20 => .ok .rdGamma
  | 0x28 => .ok .rdPixIn
  | 0x30 => .ok .rdPixXy
  | 0x38 => .ok .rdPixOut
  | 0x40 => .ok .rdFrameMin
  | 0x48 => .ok .rdFrameMax
  | 0x50 => .ok .rdCmd
  | 0x58 => .ok .rdRsvd58
  | 0x60 => .ok .rdRsvd60
  | 0x68 => .ok .rdRsvd68
  | 0x70 => .ok .rdRsvd70
  | 0x78 => .ok .rdRsvd78
  | 0x80 => .ok .rdRsvd80
  | 0x88 => .ok .rdRsvd88
  | 0x90 => .ok .rdRsvd90
  | 0x98 => .ok .rdRsvd98
  | 0xA0 => .ok .rdRsvdA0
  | 0xA8 => .ok .rdRsvdA8
  | 0xB0 => .ok .rdRsvdB0
  | 0xB8 => .ok .rdRsvdB8
  | 0xC0 => .ok .rdRsvdC0
  | 0xC8 => .ok .rdRsvdC8
  | 0xD0 => .ok .rdRsvdD0
  | 0xD8 => .ok .rdRsvdD8
  | 0xE0 => .ok .rdRsvdE0
  | 0xE8 => .ok .rdRsvdE8
  | 0xF0 => .ok .rdRsvdF0
  | 0xF8 => .ok .rdRsvdF8
  | _ => .error (.unalignedOffset offset)

/-- A write to CMD, by its command word (R84). -/
def decodeCommand (word : Word) : Instr :=
  if word = pixelWord then .cmdPixel
  else if word = frameWord then .cmdFrame
  else .cmdReserved word

/-- The writes of the register map, by offset (R81, R83). -/
def decodeWrite (offset : BitVec 8) (data : Word) : Except DecodeError Instr :=
  match offset.toNat with
  | 0x00 => .ok (.wrId data)
  | 0x08 => .ok (.wrStatus data)
  | 0x10 => .ok (.wrIrqen data)
  | 0x18 => .ok (.wrLoss data)
  | 0x20 => .ok (.wrGamma data)
  | 0x28 => .ok (.wrPixIn data)
  | 0x30 => .ok (.wrPixXy data)
  | 0x38 => .ok (.wrPixOut data)
  | 0x40 => .ok (.wrFrameMin data)
  | 0x48 => .ok (.wrFrameMax data)
  | 0x50 => .ok (decodeCommand data)
  | 0x58 => .ok (.wrRsvd58 data)
  | 0x60 => .ok (.wrRsvd60 data)
  | 0x68 => .ok (.wrRsvd68 data)
  | 0x70 => .ok (.wrRsvd70 data)
  | 0x78 => .ok (.wrRsvd78 data)
  | 0x80 => .ok (.wrRsvd80 data)
  | 0x88 => .ok (.wrRsvd88 data)
  | 0x90 => .ok (.wrRsvd90 data)
  | 0x98 => .ok (.wrRsvd98 data)
  | 0xA0 => .ok (.wrRsvdA0 data)
  | 0xA8 => .ok (.wrRsvdA8 data)
  | 0xB0 => .ok (.wrRsvdB0 data)
  | 0xB8 => .ok (.wrRsvdB8 data)
  | 0xC0 => .ok (.wrRsvdC0 data)
  | 0xC8 => .ok (.wrRsvdC8 data)
  | 0xD0 => .ok (.wrRsvdD0 data)
  | 0xD8 => .ok (.wrRsvdD8 data)
  | 0xE0 => .ok (.wrRsvdE0 data)
  | 0xE8 => .ok (.wrRsvdE8 data)
  | 0xF0 => .ok (.wrRsvdF0 data)
  | 0xF8 => .ok (.wrRsvdF8 data)
  | _ => .error (.unalignedOffset offset)

/-- The decoder: by (WE, OFFSET), a CMD write further by DATA (R83). -/
def decode (tw : Transaction) : Except DecodeError Instr :=
  if Transaction.we tw then decodeWrite (Transaction.offset tw) (Transaction.data tw)
  else decodeRead (Transaction.offset tw)

/-- The encoder: the transaction word of an instruction, with DATA 0 on a read (R80, R81, R84). -/
def encode : Instr → Transaction
  | .rdId => Transaction.mk false 0x00 0
  | .wrId data => Transaction.mk true 0x00 data
  | .rdStatus => Transaction.mk false 0x08 0
  | .wrStatus data => Transaction.mk true 0x08 data
  | .rdIrqen => Transaction.mk false 0x10 0
  | .wrIrqen data => Transaction.mk true 0x10 data
  | .rdLoss => Transaction.mk false 0x18 0
  | .wrLoss data => Transaction.mk true 0x18 data
  | .rdGamma => Transaction.mk false 0x20 0
  | .wrGamma data => Transaction.mk true 0x20 data
  | .rdPixIn => Transaction.mk false 0x28 0
  | .wrPixIn data => Transaction.mk true 0x28 data
  | .rdPixXy => Transaction.mk false 0x30 0
  | .wrPixXy data => Transaction.mk true 0x30 data
  | .rdPixOut => Transaction.mk false 0x38 0
  | .wrPixOut data => Transaction.mk true 0x38 data
  | .rdFrameMin => Transaction.mk false 0x40 0
  | .wrFrameMin data => Transaction.mk true 0x40 data
  | .rdFrameMax => Transaction.mk false 0x48 0
  | .wrFrameMax data => Transaction.mk true 0x48 data
  | .rdCmd => Transaction.mk false 0x50 0
  | .cmdPixel => Transaction.mk true 0x50 pixelWord
  | .cmdFrame => Transaction.mk true 0x50 frameWord
  | .cmdReserved word => Transaction.mk true 0x50 word
  | .rdRsvd58 => Transaction.mk false 0x58 0
  | .wrRsvd58 data => Transaction.mk true 0x58 data
  | .rdRsvd60 => Transaction.mk false 0x60 0
  | .wrRsvd60 data => Transaction.mk true 0x60 data
  | .rdRsvd68 => Transaction.mk false 0x68 0
  | .wrRsvd68 data => Transaction.mk true 0x68 data
  | .rdRsvd70 => Transaction.mk false 0x70 0
  | .wrRsvd70 data => Transaction.mk true 0x70 data
  | .rdRsvd78 => Transaction.mk false 0x78 0
  | .wrRsvd78 data => Transaction.mk true 0x78 data
  | .rdRsvd80 => Transaction.mk false 0x80 0
  | .wrRsvd80 data => Transaction.mk true 0x80 data
  | .rdRsvd88 => Transaction.mk false 0x88 0
  | .wrRsvd88 data => Transaction.mk true 0x88 data
  | .rdRsvd90 => Transaction.mk false 0x90 0
  | .wrRsvd90 data => Transaction.mk true 0x90 data
  | .rdRsvd98 => Transaction.mk false 0x98 0
  | .wrRsvd98 data => Transaction.mk true 0x98 data
  | .rdRsvdA0 => Transaction.mk false 0xA0 0
  | .wrRsvdA0 data => Transaction.mk true 0xA0 data
  | .rdRsvdA8 => Transaction.mk false 0xA8 0
  | .wrRsvdA8 data => Transaction.mk true 0xA8 data
  | .rdRsvdB0 => Transaction.mk false 0xB0 0
  | .wrRsvdB0 data => Transaction.mk true 0xB0 data
  | .rdRsvdB8 => Transaction.mk false 0xB8 0
  | .wrRsvdB8 data => Transaction.mk true 0xB8 data
  | .rdRsvdC0 => Transaction.mk false 0xC0 0
  | .wrRsvdC0 data => Transaction.mk true 0xC0 data
  | .rdRsvdC8 => Transaction.mk false 0xC8 0
  | .wrRsvdC8 data => Transaction.mk true 0xC8 data
  | .rdRsvdD0 => Transaction.mk false 0xD0 0
  | .wrRsvdD0 data => Transaction.mk true 0xD0 data
  | .rdRsvdD8 => Transaction.mk false 0xD8 0
  | .wrRsvdD8 data => Transaction.mk true 0xD8 data
  | .rdRsvdE0 => Transaction.mk false 0xE0 0
  | .wrRsvdE0 data => Transaction.mk true 0xE0 data
  | .rdRsvdE8 => Transaction.mk false 0xE8 0
  | .wrRsvdE8 data => Transaction.mk true 0xE8 data
  | .rdRsvdF0 => Transaction.mk false 0xF0 0
  | .wrRsvdF0 data => Transaction.mk true 0xF0 data
  | .rdRsvdF8 => Transaction.mk false 0xF8 0
  | .wrRsvdF8 data => Transaction.mk true 0xF8 data

/-- What the decoder reads from a table row's word `w`, its bits numbered as spec/opcode_table.json numbers
them (bit 0 the least significant bit of TW). A transaction has one length, 73 bits (R80), so `nbits` says
nothing more; a number that needs more than 73 bits is no transaction word. -/
def decodeTableWord (_nbits w : Nat) : Option Instr :=
  if w < 2 ^ 73 then (decode (BitVec.ofNat 73 w)).toOption else none

end Sys2Proof
end

