-- ==== Sys2Proof/Machine/Sequencer.lean ====
section
/-! DEFINITION. The frame sequencer (42_commands.md R173, R174): one pending coordinate per step. -/

namespace Sys2Proof.Machine

open Sys2Proof

/-- The value the running frame writes at one of its pending coordinates: the pixel function of the source
pixel (R173), or, once the host has broken the duty of R236, any 32-bit value (a free value; log entry 9). -/
def frameValue (P : Params) (s : State) (c : Coord) : DstPixel :=
  match s.breach with
  | none => pixOf P s c (srcAt s.src c)
  | some n => Config.freePixel n c

/-- The pending coordinate the sequencer takes for the pick `k` (R173): any of them, by some `k`. -/
def picked (s : State) (k : Nat) : Option Coord := s.pending[k % s.pending.length]?

/-- `DstWrite` at a coordinate of the frame; where a host write made during the frame survives, that write
is the later one and the pixel stays (R237; log entry 10). -/
def frameWrite (P : Params) (c : Coord) (s : State) : State :=
  if c ∈ s.kept then s else dstStore c (frameValue P s c) s

/-- `PENDING <- PENDING \ (x, y)`, and the completion of the frame when that empties it (R173, R174). -/
def retire (c : Coord) (s : State) : State :=
  let s' := { s with pending := s.pending.erase c }
  if busy s' then s' else finishFrame s'

/-- A sequencer step with the pick `k`; enabled exactly when PENDING is not empty (R173). -/
def sequencerStep (P : Params) (k : Nat) (s : State) : State :=
  match picked s k with
  | none => s
  | some c => retire c (frameWrite P c s)

end Sys2Proof.Machine
end

