-- ==== Sys2Proof/Machine/Platform.lean ====
section
/-! DEFINITION. What the platform and the host do outside the register port: inputs (10_state.md R37,
70_reset_and_hazards.md R240), breaches of the source duty (R236), races on the destination (R237), shared
storage (R237), and byte-addressed bus accesses (20_memory.md R51, R57, R58). -/

namespace Sys2Proof.Machine

open Sys2Proof

/-- A breach of the source duty while BUSY is 1: from now on every pixel the frame has not yet written may
take any value (R236; log entry 9). -/
def breachDuty (s : State) : State :=
  if busy s then { s with breach := some s.draws, draws := s.draws + 1 } else s

/-- The platform drives `src_present`. During a frame it must stay 1 (R236), and any change is a breach
(R240): only driving a 1 that is 1 already is none. -/
def driveSrcPresent (b : Bool) (s : State) : State :=
  let s' := { s with srcPresent := b }
  if b && s.srcPresent then s' else breachDuty s'

/-- The platform drives `src_hp`. During a frame it must stay 1 (R236), and any change is a breach (R240): only
driving a 1 that is 1 already is none. -/
def driveSrcHp (b : Bool) (s : State) : State :=
  let s' := { s with srcHp := b }
  if b && s.srcHp then s' else breachDuty s'

/-- A store to a source pixel; at a coordinate of a running frame a change is a breach (R236). DESIGN CHOICE (log
entry 9): a store of the value the pixel already holds counts as a change and so as a breach; R236 does not say
whether it is one. -/
def changeSource (c : Coord) (p : SrcPixel) (s : State) : State :=
  let s' := srcStore c p s
  if inFrame s c then breachDuty s' else s'

/-- Whether a host access to a destination coordinate races with a running frame (R237). -/
def races (s : State) (c : Coord) : Bool := busy s && inFrame s c

/-- The pixel a host read of the destination sees (R237): outside a running frame what the destination
holds; inside, the value before the frame or the value the frame writes. DESIGN CHOICE (log entry 10), for the
reads after a host write at the coordinate during the frame, a case R237 does not name. Where the coordinate is
still pending, `now` sees what the destination holds, the host's own value, which is neither of R237's two;
`before` and `frame` still see those two. Where the frame has written the coordinate, the value the frame writes
is what the destination holds now, so that after a later host write there that survived, a read sees the host's
own value in its place. -/
def seenPixel (P : Params) (c : Coord) (sees : RaceRead) (s : State) : DstPixel :=
  if races s c then
    match sees with
    | .before => dstAt s.preFrame c
    | .now => dstAt s.dst c
    | .frame => if c ∈ s.pending then frameValue P s c else dstAt s.dst c
  else dstAt s.dst c

/-- A host read of a destination pixel; it changes nothing of QDITH. -/
def hostRead (P : Params) (c : Coord) (sees : RaceRead) (s : State) : State :=
  { s with hostPixel := some (seenPixel P c sees s) }

/-- A host write of a destination pixel (R237). At a coordinate of a running frame it is kept or overwritten,
as `survives` says: before the frame's own write the coordinate is marked for `frameWrite`; after it, an
overwritten host write leaves the frame's pixel. -/
def hostWrite (c : Coord) (v : DstPixel) (survives : Bool) (s : State) : State :=
  if races s c then
    if c ∈ s.pending then
      { dstStore c v s with
        kept := if survives then c :: s.kept.filter (· != c) else s.kept.filter (· != c) }
    else if survives then dstStore c v s else s
  else dstStore c v s

/-- The platform maps source and destination onto overlapping storage, or stops doing so: refused while a
frame runs (R237, U10; log entry 11). -/
def driveOverlap (b : Bool) (s : State) : Result :=
  if b && busy s then .refused .overlappingImages else .next { s with overlap := b }

/-- What a byte-addressed bus access is for QDITH. -/
inductive BusRoute where
  /-- It touches no byte of the register block (R51, R60). -/
  | elsewhere
  /-- It touches the block but is no whole aligned slot (R58, U11). -/
  | illFormed
  /-- It is a transaction (R51, R57). -/
  | port (tw : Transaction)
  deriving DecidableEq, Repr

/-- Whether an access touches the 256 bytes at `P_BASE` (R51). -/
def touchesBlock (P : Params) (a : BusAccess) : Bool :=
  decide (0 < a.bytes.length) && decide (P.base < a.addr + a.bytes.length) && decide (a.addr < P.base + 256)

/-- The transaction a bus access stands for: 8 bytes at `P_BASE + 8*k`, byte `j` in bits `[8j+7:8j]`
(R51, R57). -/
def routeBus (P : Params) (a : BusAccess) : BusRoute :=
  if touchesBlock P a then
    if P.base ≤ a.addr && (a.addr - P.base) % 8 == 0 && a.bytes.length == 8 then
      .port (Transaction.mk a.write (BitVec.ofNat 8 (a.addr - P.base)) (if a.write then joinBytes a.bytes else 0))
    else .illFormed
  else .elsewhere

/-- The bytes a bridge returns for a read, lowest address first: the response word's (R57). -/
def busReply (s : State) : Option (List Byte) := s.resp.map fun v => (List.range 8).map (slotByte v)

end Sys2Proof.Machine
end

