-- ==== Sys2Proof/Machine/Fetch.lean ====
section
/-! DEFINITION. What a step runs: the next event of the schedule (log entry 1), and the meaning of each event.
QDITH has no program counter and fetches nothing (10_state.md R22); the host's transactions are its only
instruction stream. -/

namespace Sys2Proof.Machine

open Sys2Proof

/-- The next event, and the state with it taken out. With nothing scheduled the sequencer moves, while a frame
runs, on a free pick (R173, R243; log entry 2); an idle block keeps all its state (R215). -/
def nextEvent (s : State) : Event × State :=
  match s.schedule with
  | e :: rest => (e, { s with schedule := rest })
  | [] =>
    if busy s then (.sequencer (Config.freePick s.draws), { s with draws := s.draws + 1 })
    else (.sequencer 0, s)

/-- A host transaction: decode, then execute (R80, R83). -/
def runTransaction (tw : Transaction) (s : State) : Result :=
  match decode tw with
  | .ok i => exec i s
  | .error (.unalignedOffset offset) => .refused (.unalignedOffset offset)

/-- A byte-addressed bus access (R57, R58). -/
def busEvent (a : BusAccess) (s : State) : Result :=
  match routeBus Config.params a with
  | .elsewhere => .next s
  | .illFormed => .refused (.narrowAccess a.addr a.bytes.length)
  | .port tw => runTransaction tw s

/-- The meaning of an event. -/
def runEvent (e : Event) (s : State) : Result :=
  match e with
  | .transaction tw => runTransaction tw s
  | .bus a => busEvent a s
  | .sequencer k => .next (sequencerStep Config.params k s)
  | .srcPresent b => .next (driveSrcPresent b s)
  | .srcHp b => .next (driveSrcHp b s)
  | .srcWrite c p => .next (changeSource c p s)
  | .srcSideEffect => .next (breachDuty s)
  | .dstRead c sees => .next (hostRead Config.params c sees s)
  | .dstWrite c v survives => .next (hostWrite c v survives s)
  | .overlap b => driveOverlap b s
  | .reset => .next (resetBlock s)

/-- The transaction whose bits are `w`, placed as the next event (log entry 17). -/
def issue (tw : Transaction) (s : State) : State := { s with schedule := .transaction tw :: s.schedule }

end Sys2Proof.Machine
end

