-- ==== Sys2Proof/Machine/Step.lean ====
section
/-! DEFINITION. One step: the next event's meaning on the state without it. -/

namespace Sys2Proof.Machine

open Sys2Proof

/-- One step of the machine. -/
def step (s : State) : Host.Outcome State Fault Refusal := runEvent (nextEvent s).1 (nextEvent s).2

/-- `s` with the transaction of a table row's word placed where `step` takes its next one: at the head of the
schedule. Every transaction has the one length of 73 bits (R80), so `nbits` says nothing more. -/
def State.withFetchWord (s : State) (_nbits w : Nat) : State := issue (BitVec.ofNat 73 w) s

end Sys2Proof.Machine
end

