-- ==== Sys2Proof/Safety.lean ====
section
/-! DEFINITION. What the statements call a good state and a dutiful environment: the invariant of the machine
(10_state.md R24, R28, R33, R34; 20_memory.md R55, R56), the host's duties during a frame
(70_reset_and_hazards.md R236, R237), and how far a frame has come (42_commands.md R173, R176). -/

namespace Sys2Proof.Safety

open Sys2Proof Sys2Proof.Machine

/-- `ERR = 0 <-> ERRCODE = 0`, and only the codes 0 to 3 are stored (R24, R200). -/
def ErrorCodeLegal (s : State) : Prop := (s.err = false ↔ s.errCode = 0) ∧ s.errCode.toNat ≤ 3

/-- GAMMA holds a value greater than zero (R28). -/
def GammaPositive (s : State) : Prop := fgt s.gamma fzero = true

/-- The LUT, where there is one, holds the power law of GAMMA (R33). -/
def LutCoherent (s : State) : Prop := s.lut = lutFill Config.params s.gamma

/-- PENDING is a set of coordinates of the rectangle of FRAME_MIN and FRAME_MAX (R34). -/
def PendingInFrame (s : State) : Prop := s.pending.Nodup ∧ ∀ c ∈ s.pending, inFrame s c = true

/-- The images are in canonical form (log entry 6). -/
def ImagesCanonical (s : State) : Prop :=
  Memory.wf s.src = true ∧ Memory.wf s.dst = true ∧ Memory.wf s.preFrame = true

/-- While no frame runs the model records nothing of one (log entries 9 and 10). -/
def RecordIdle (s : State) : Prop :=
  busy s = false → s.preFrame = [] ∧ s.kept = [] ∧ s.breach = none

/-- The invariant of the machine. -/
def StateInv (s : State) : Prop :=
  ErrorCodeLegal s ∧ GammaPositive s ∧ LutCoherent s ∧ PendingInFrame s ∧ ImagesCanonical s ∧ RecordIdle s

/-- The host and the platform keep the duties of R236 and R237 in this event: while BUSY is 1 the source stays
bound, capable and unchanged on the frame's coordinates, no host access touches a destination coordinate of
the frame, and the images do not overlap. -/
def dutiful (s : State) (e : Event) : Bool :=
  match e with
  | .transaction _ => true
  | .bus _ => true
  | .sequencer _ => true
  | .srcPresent b => (b && s.srcPresent) || !busy s
  | .srcHp b => (b && s.srcHp) || !busy s
  | .srcWrite c _ => !(busy s && inFrame s c)
  | .srcSideEffect => !busy s
  | .dstRead c _ => !races s c
  | .dstWrite c _ _ => !races s c
  | .overlap b => !b || !busy s
  | .reset => true

/-- How far a frame has come, its host having kept the duties: every pixel of the rectangle still pending
holds what it held before the frame, every other one its dithered source pixel (R173, R176). -/
def FrameProgress (s : State) : Prop :=
  s.breach = none ∧ s.kept = [] ∧
    ∀ c, inFrame s c = true →
      dstAt s.dst c =
        if c ∈ s.pending then dstAt s.preFrame c else pixOf Config.params s c (srcAt s.src c)

/-- The event is one of the two agents of a frame at work: a host transaction, or a sequencer step. -/
def isFrameEvent (e : Event) : Bool :=
  match e with
  | .transaction tw => (decode tw).toOption.isSome
  | .sequencer _ => true
  | _ => false

/-- The event is a sequencer step. -/
def isSequencerStep (e : Event) : Bool :=
  match e with
  | .sequencer _ => true
  | _ => false

/-- The guarded writes (R141). -/
def isGuarded (i : Instr) : Bool :=
  match i with
  | .wrLoss _ | .wrGamma _ | .wrFrameMin _ | .wrFrameMax _ | .cmdPixel | .cmdFrame | .cmdReserved _ => true
  | _ => false

/-- The reads of the 21 reserved slots (R163). -/
def reservedReads : List Instr :=
  [.rdRsvd58, .rdRsvd60, .rdRsvd68, .rdRsvd70, .rdRsvd78, .rdRsvd80, .rdRsvd88, .rdRsvd90, .rdRsvd98,
    .rdRsvdA0, .rdRsvdA8, .rdRsvdB0, .rdRsvdB8, .rdRsvdC0, .rdRsvdC8, .rdRsvdD0, .rdRsvdD8, .rdRsvdE0,
    .rdRsvdE8, .rdRsvdF0, .rdRsvdF8]

/-- The writes of the 21 reserved slots, with the word written (R163). -/
def reservedWrites (data : Word) : List Instr :=
  [.wrRsvd58 data, .wrRsvd60 data, .wrRsvd68 data, .wrRsvd70 data, .wrRsvd78 data, .wrRsvd80 data,
    .wrRsvd88 data, .wrRsvd90 data, .wrRsvd98 data, .wrRsvdA0 data, .wrRsvdA8 data, .wrRsvdB0 data,
    .wrRsvdB8 data, .wrRsvdC0 data, .wrRsvdC8 data, .wrRsvdD0 data, .wrRsvdD8 data, .wrRsvdE0 data,
    .wrRsvdE8 data, .wrRsvdF0 data, .wrRsvdF8 data]

/-- The writes of the two read-only registers (R155, R162). -/
def readOnlyWrites (data : Word) : List Instr := [.wrId data, .wrPixOut data]

/-! Premises on the ROM contents and the power function, which the hardware does not check (R41, R42, R7). -/

/-- `WF_MONO(L)`: the row does not decrease up to `M(L)` (R41). -/
def RowMono (P : Params) (L : Level) : Prop :=
  ∀ i, i < maxIndex L → expand P L i ≤ expand P L (i + 1)

/-- `WF_BRACKET(L)`: every sample below 255 lies in its bracket (R41). -/
def RowBrackets (P : Params) (L : Level) : Prop :=
  ∀ s8 : Sample8, s8 ≠ 255 → (bracket P L s8).1 ≤ s8 ∧ s8 < (bracket P L s8).2

/-- `WF_TOP(L)`: 255 is a grid value (R41). -/
def RowTop (P : Params) (L : Level) : Prop := ∃ k, k ≤ maxIndex L ∧ expand P L k = 255

/-- `P_POW(., G)` does not decrease on [0, 1] (the premise spec 40_datapath.md R111 names). -/
def PowMono (P : Params) (G : F64) : Prop :=
  ∀ q r, inUnit q = true → inUnit r = true → fle q r = true → fle (pow P q G) (pow P r G) = true

end Sys2Proof.Safety
end

