-- ==== Sys2Proof/Certificates/Slice0/Obligations.lean ====
section
/-! DEFINITION. The statements about the machine, from the numbered rules of spec/. -/

open Sys2Proof Sys2Proof.Machine Sys2Proof.Safety

/-! ### Encoding and the step -/

/-- R80 to R84: decoding the encoding of a well-formed instruction gives it back, every operand at every
value. -/
def Obligations.DecodeOfEncode : Prop :=
  ∀ i : Instr, i.wf = true → decode (encode i) = .ok i

/-- R83: the decode is total on the words whose OFFSET[2:0] is zero, gives a well-formed instruction, and
refuses every other word by name. -/
def Obligations.DecodeTotalOnAlignedOffsets : Prop :=
  ∀ tw : Transaction,
    if (Transaction.offset tw).extractLsb' 0 3 = 0 then ∃ i, decode tw = .ok i ∧ i.wf = true
    else decode tw = .error (.unalignedOffset (Transaction.offset tw))

/-- R80, R83: a word and the encoding of its decoding differ at most in the ignored DATA of a read. -/
def Obligations.EncodeOfDecode : Prop :=
  ∀ (tw : Transaction) (i : Instr), decode tw = .ok i →
    encode i = if Transaction.we tw then tw else Transaction.mk false (Transaction.offset tw) 0

/-- R84: the command word table. -/
def Obligations.CommandWords : Prop :=
  ∀ word : Word, decode (Transaction.mk true 0x50 word) =
    if word.extractLsb' 8 56 = 0 ∧ word.extractLsb' 0 8 = 0x01 then .ok .cmdPixel
    else if word.extractLsb' 8 56 = 0 ∧ word.extractLsb' 0 8 = 0x02 then .ok .cmdFrame
    else .ok (.cmdReserved word)

/-- Words of spec 95_test_vectors.md section 6 and their instructions. -/
def Obligations.SampleWordsDecode : Prop :=
  decode 0x0000000000000000000 = .ok .rdId ∧
  decode 0x128FF008042000112FF = .ok (.wrPixIn 0xFF008042000112FF) ∧
  decode 0x1500000000000000001 = .ok .cmdPixel ∧
  decode 0x1500000000000000002 = .ok .cmdFrame ∧
  decode 0x1500000000000000102 = .ok (.cmdReserved 0x102) ∧
  decode 0x0F80000000000000000 = .ok .rdRsvdF8

/-- R62, R80, R83: when the next event is a transaction whose word decodes, the step is `exec` of its
instruction on the state without that event. -/
def Obligations.StepRunsDecodedTransaction : Prop :=
  ∀ (s : State) (tw : Transaction) (rest : List Event) (i : Instr),
    s.schedule = .transaction tw :: rest → decode tw = .ok i → step s = exec i { s with schedule := rest }

/-- R58, U11: a word whose OFFSET[2:0] is not zero is refused. -/
def Obligations.UnalignedTransactionRefused : Prop :=
  ∀ (s : State) (tw : Transaction) (rest : List Event),
    s.schedule = .transaction tw :: rest → (Transaction.offset tw).extractLsb' 0 3 ≠ 0 →
      step s = .refused (.unalignedOffset (Transaction.offset tw))

/-- R51, R57, R58, U11: eight bytes at `P_BASE + 8*k` are the transaction of slot `k`, byte `j` in bits
`[8j+7:8j]`, and a step runs it; the bytes of a read's reply are those of the response word. A narrow or
misaligned access is refused. That one wider than a slot is refused too, and that an access elsewhere changes
nothing, is the model's choice (log entry 12). -/
def Obligations.BridgeCarriesWholeSlots : Prop :=
  (∀ (P : Params) (a : BusAccess),
    (∀ k : Nat, k < 32 → a.addr = P.base + 8 * k → a.bytes.length = 8 →
      ∃ data : Word, routeBus P a = .port (Transaction.mk a.write (BitVec.ofNat 8 (8 * k)) data) ∧
        (a.write = true → ∀ j : Nat, j < 8 → some (slotByte data j) = a.bytes[j]?) ∧
        (a.write = false → data = 0)) ∧
    (0 < a.bytes.length → P.base < a.addr + a.bytes.length → a.addr < P.base + 256 →
      ¬ (∃ k : Nat, k < 32 ∧ a.addr = P.base + 8 * k ∧ a.bytes.length = 8) → routeBus P a = .illFormed) ∧
    (¬ (0 < a.bytes.length ∧ P.base < a.addr + a.bytes.length ∧ a.addr < P.base + 256) →
      routeBus P a = .elsewhere)) ∧
  (∀ (s : State) (a : BusAccess) (rest : List Event), s.schedule = .bus a :: rest →
    step s = match routeBus Config.params a with
      | .port tw => runTransaction tw { s with schedule := rest }
      | .illFormed => .refused (.narrowAccess a.addr a.bytes.length)
      | .elsewhere => .next { s with schedule := rest }) ∧
  ∀ (s : State) (v : Word), s.resp = some v →
    ∃ bytes : List Byte, busReply s = some bytes ∧ bytes.length = 8 ∧
      ∀ j : Nat, j < 8 → bytes[j]? = some (v.extractLsb' (8 * j) 8)

/-! ### Register transactions -/

/-- R140, R142, R144, R146, R148, R150, R152, R154, R156, R158, R160, R161: every read answers with the
register's value and changes nothing, busy or not. -/
def Obligations.ReadsAnswerAndChangeNothing : Prop :=
  ∀ s : State,
    exec .rdId s = .next { s with resp := some (idWord Config.params) } ∧
    exec .rdStatus s = .next { s with resp := some (statusWord s) } ∧
    exec .rdIrqen s = .next { s with resp := some (s.irqen.zeroExtend 64) } ∧
    exec .rdLoss s = .next { s with resp := some (s.loss.zeroExtend 64) } ∧
    exec .rdGamma s = .next { s with resp := some s.gamma } ∧
    exec .rdPixIn s = .next { s with resp := some s.pixIn } ∧
    exec .rdPixXy s = .next { s with resp := some s.pixXy } ∧
    exec .rdPixOut s = .next { s with resp := some (s.pixOut.zeroExtend 64) } ∧
    exec .rdFrameMin s = .next { s with resp := some s.frameMin } ∧
    exec .rdFrameMax s = .next { s with resp := some s.frameMax } ∧
    exec .rdCmd s = .next { s with resp := some 0 }

/-- R142, R25: the answer of a STATUS read, bit by bit; the read changes nothing else. -/
def Obligations.StatusWordLayout : Prop :=
  ∀ s : State, exec .rdStatus s = .next { s with resp := some (statusWord s) } ∧
    (statusWord s).getLsbD 0 = !s.pending.isEmpty ∧ (statusWord s).getLsbD 1 = s.done ∧
    (statusWord s).getLsbD 2 = s.err ∧ (statusWord s).getLsbD 3 = s.rej ∧
    (statusWord s).extractLsb' 4 4 = 0 ∧ (statusWord s).extractLsb' 8 4 = s.errCode ∧
    (statusWord s).extractLsb' 12 4 = 0 ∧ (statusWord s).getLsbD 16 = s.srcPresent ∧
    (statusWord s).getLsbD 17 = s.srcHp ∧ (statusWord s).extractLsb' 18 46 = 0

/-- R161: the answer of an ID read, by the variant. -/
def Obligations.IdentityWord : Prop :=
  (∀ s : State, exec .rdId s = .next { s with resp := some (idWord Config.params) }) ∧
  ∀ P : Params,
    idWord P = match P.linearizer with
      | .power => 0x0000000000000001
      | .lut => 0x0000000000000101

/-- R143: the write of STATUS clears DONE, ERR with ERRCODE, and REJ by its bits 1, 2 and 3, ignores every
other bit, changes nothing else, and is never refused. -/
def Obligations.StatusWriteClears : Prop :=
  ∀ (data : Word) (s : State),
    exec (.wrStatus data) s = .next { s with
      done := if data.getLsbD 1 then false else s.done
      err := if data.getLsbD 2 then false else s.err
      errCode := if data.getLsbD 2 then 0 else s.errCode
      rej := if data.getLsbD 3 then false else s.rej }

/-- R145, R206: the write of IRQEN takes DATA[2:0], and the interrupt line follows at once. -/
def Obligations.IrqenWriteDrivesLine : Prop :=
  ∀ (data : Word) (s : State), ∃ t : State,
    exec (.wrIrqen data) s = .next t ∧ t = { s with irqen := data.extractLsb' 0 3 } ∧
    irq t = ((s.done && data.getLsbD 0) || (s.err && data.getLsbD 1) || (s.rej && data.getLsbD 2))

/-- R141, R147: while BUSY is 0 the write of LOSS stores the signed 64-bit word clamped to 0..7 and nothing
else; while BUSY is 1 it is refused. -/
def Obligations.LossWriteClamps : Prop :=
  ∀ (data : Word) (s : State),
    (busy s = false → ∃ l : Level, exec (.wrLoss data) s = .next { s with loss := l } ∧
      (l.toNat : Int) = if data.toInt < 0 then 0 else if 7 < data.toInt then 7 else data.toInt) ∧
    (busy s = true → exec (.wrLoss data) s = .next { s with rej := true })

/-- R141, R149: while BUSY is 0 the write of GAMMA stores the word if it is a binary64 value greater than
zero (sign 0, not zero, not NaN) and GAMMA_DEFAULT otherwise, and in the LUT variant refills every entry;
nothing else changes. While BUSY is 1 it is refused. -/
def Obligations.GammaWriteReplacesAndRefills : Prop :=
  ∀ (data : Word) (s : State),
    (busy s = false → ∃ t : State, exec (.wrGamma data) s = .next t ∧
      t.gamma = (if data.getLsbD 63 = false ∧ data ≠ 0 ∧ data.toNat ≤ 0x7FF0000000000000 then data
        else 0x400199999999999A) ∧
      (match Config.params.linearizer with
        | .power => t.lut = none
        | .lut => ∃ table : Lut, t.lut = some table ∧ ∀ v : Sample8,
            table[v.toNat] = pow Config.params (fdiv (f64 v.toNat) (f64 255)) t.gamma) ∧
      t = { s with gamma := t.gamma, lut := t.lut }) ∧
    (busy s = true → exec (.wrGamma data) s = .next { s with rej := true })

/-- R151, R153: the writes of PIX_IN and PIX_XY store the whole word, are never refused, and change nothing
else. -/
def Obligations.PixelOperandWrites : Prop :=
  ∀ (data : Word) (s : State),
    exec (.wrPixIn data) s = .next { s with pixIn := data } ∧
    exec (.wrPixXy data) s = .next { s with pixXy := data }

/-- R141, R157, R159: the writes of FRAME_MIN and FRAME_MAX store the whole word while BUSY is 0 and are
refused while it is 1. -/
def Obligations.FrameCornerWrites : Prop :=
  ∀ (data : Word) (s : State),
    (busy s = false →
      exec (.wrFrameMin data) s = .next { s with frameMin := data } ∧
      exec (.wrFrameMax data) s = .next { s with frameMax := data }) ∧
    (busy s = true →
      exec (.wrFrameMin data) s = .next { s with rej := true } ∧
      exec (.wrFrameMax data) s = .next { s with rej := true })

/-- R155, R162: the writes of ID and PIX_OUT have no effect. -/
def Obligations.ReadOnlyWritesIgnored : Prop :=
  ∀ (data : Word) (s : State) (i : Instr), i ∈ readOnlyWrites data → exec i s = .next s

/-- R163: the reserved slots read as zero, and their writes have no effect. -/
def Obligations.ReservedSlotsReadZeroIgnoreWrites : Prop :=
  ∀ (data : Word) (s : State),
    (∀ i ∈ reservedReads, exec i s = .next { s with resp := some 0 }) ∧
    (∀ i ∈ reservedWrites data, exec i s = .next s)

/-- R204, R141: while BUSY is 1 every guarded write sets REJ and changes nothing else; no other transaction
ever sets REJ. -/
def Obligations.BusyGuard : Prop :=
  ∀ (i : Instr) (s : State),
    (isGuarded i = true → busy s = true → exec i s = .next { s with rej := true }) ∧
    (∀ t : State, ¬ (isGuarded i = true ∧ busy s = true) → exec i s = .next t → s.rej = false →
      t.rej = false)

/-! ### Commands, errors and the interrupt -/

/-- R171: PIXEL writes `PIX(L, G, x, y, PIX_IN)` to PIX_OUT and changes nothing else. -/
def Obligations.PixelCommandDithersOnePixel : Prop :=
  ∀ s : State, busy s = false →
    exec .cmdPixel s = .next { s with
      pixOut := pix Config.params s.lut s.loss s.gamma ⟨s.pixXy.extractLsb' 0 32, s.pixXy.extractLsb' 32 32⟩ s.pixIn }

/-- R172: a FRAME without a source fails with NO_SOURCE, one whose source lacks the capability with
NO_CAPABILITY, and nothing but ERR and ERRCODE changes. With a capable source it clears DONE and makes PENDING
the half-open rectangle, compared as signed; an empty one completes at once; BUSY is then 1 exactly when the
rectangle is not empty; nothing else of the hardware changes. The images must not overlap (R237). -/
def Obligations.FrameCommandStartsRectangle : Prop :=
  ∀ s : State, busy s = false →
    (s.srcPresent = false → exec .cmdFrame s = .next { s with err := true, errCode := 1 }) ∧
    (s.srcPresent = true → s.srcHp = false → exec .cmdFrame s = .next { s with err := true, errCode := 2 }) ∧
    (s.srcPresent = true → s.srcHp = true → s.overlap = false →
      ∃ t : State, exec .cmdFrame s = .next t ∧ t.pending.Nodup ∧
        (∀ c : Coord, c ∈ t.pending ↔
          (s.frameMin.extractLsb' 0 32).toInt ≤ c.x.toInt ∧ c.x.toInt < (s.frameMax.extractLsb' 0 32).toInt ∧
          (s.frameMin.extractLsb' 32 32).toInt ≤ c.y.toInt ∧ c.y.toInt < (s.frameMax.extractLsb' 32 32).toInt) ∧
        t.done = t.pending.isEmpty ∧ busy t = !t.pending.isEmpty ∧
        t = { s with pending := t.pending, done := t.done, preFrame := t.preFrame, kept := t.kept, breach := t.breach })

/-- The model's record at the start of a frame (log entries 9 and 10): an accepted frame that has pixels
starts with no pixel written. -/
def Obligations.AcceptedFrameStartsProgress : Prop :=
  ∀ s t : State, busy s = false → exec .cmdFrame s = .next t → busy t = true →
    FrameProgress t ∧ PendingInFrame t ∧ t.dst = s.dst ∧ t.preFrame = s.dst

/-- R237, U10 (the model's treatment, log entry 11): a FRAME with pixels whose images share storage is
refused. -/
def Obligations.OverlappingFrameRefused : Prop :=
  ∀ s : State, busy s = false → s.srcPresent = true → s.srcHp = true → s.overlap = true →
    rectangle s.frameMin s.frameMax ≠ [] → exec .cmdFrame s = .refused .overlappingImages

/-- R175: a reserved command word raises BAD_CMD and changes nothing else; while BUSY is 1 it is refused and
raises none. -/
def Obligations.ReservedCommandFails : Prop :=
  ∀ (word : Word) (s : State),
    (busy s = false → exec (.cmdReserved word) s = .next { s with err := true, errCode := 3 }) ∧
    (busy s = true → exec (.cmdReserved word) s = .next { s with rej := true })

/-- R170, R203: the dispatch of a CMD write, and the one outcome it reports, the first that applies: busy
refusal, BAD_CMD, NO_SOURCE, NO_CAPABILITY, and only then the command runs, PIXEL or FRAME, which sets neither
REJ nor ERR. -/
def Obligations.CommandOutcomePriority : Prop :=
  ∀ (word : Word) (s : State), s.overlap = false →
    ∃ t : State, runTransaction (Transaction.mk true 0x50 word) s = .next t ∧
      if busy s then t = { s with rej := true }
      else if word.extractLsb' 8 56 ≠ 0 ∨ (word.extractLsb' 0 8 ≠ 0x01 ∧ word.extractLsb' 0 8 ≠ 0x02) then
        t = { s with err := true, errCode := 3 }
      else if word.extractLsb' 0 8 = 0x02 ∧ s.srcPresent = false then t = { s with err := true, errCode := 1 }
      else if word.extractLsb' 0 8 = 0x02 ∧ s.srcHp = false then t = { s with err := true, errCode := 2 }
      else exec (if word.extractLsb' 0 8 = 0x01 then .cmdPixel else .cmdFrame) s = .next t ∧
        t.err = s.err ∧ t.errCode = s.errCode ∧ t.rej = s.rej

/-- R24, R39, R172, R201, R204: which transactions set and clear the flags. DONE is set only by FRAME and
cleared only by FRAME and the STATUS write (R172 against R39, log entry 13). -/
def Obligations.FlagSources : Prop :=
  ∀ (i : Instr) (s t : State), exec i s = .next t →
    (s.done = false → t.done = true → i = .cmdFrame) ∧
    (s.err = false → t.err = true → i = .cmdFrame ∨ ∃ w, i = .cmdReserved w) ∧
    (s.rej = false → t.rej = true → isGuarded i = true ∧ busy s = true) ∧
    (s.done = true → t.done = false → i = .cmdFrame ∨ ∃ d, i = .wrStatus d) ∧
    (s.err = true → t.err = false → ∃ d, i = .wrStatus d) ∧
    (s.rej = true → t.rej = false → ∃ d, i = .wrStatus d)

/-- R38, R206: the interrupt line. -/
def Obligations.InterruptLine : Prop :=
  ∀ s : State, irq s = true ↔
    (s.done = true ∧ s.irqen.getLsbD 0 = true) ∨ (s.err = true ∧ s.irqen.getLsbD 1 = true) ∨
      (s.rej = true ∧ s.irqen.getLsbD 2 = true)

/-! ### Frames of the transactions -/

/-- R21, R31, R37: each register is written only by its own transactions and commands, and the inputs and the
host's schedule by none. -/
def Obligations.RegisterFrame : Prop :=
  ∀ (i : Instr) (s t : State), exec i s = .next t →
    (t.irqen = s.irqen ∨ ∃ d, i = .wrIrqen d) ∧
    (t.loss = s.loss ∨ ∃ d, i = .wrLoss d) ∧
    ((t.gamma = s.gamma ∧ t.lut = s.lut) ∨ ∃ d, i = .wrGamma d) ∧
    (t.pixIn = s.pixIn ∨ ∃ d, i = .wrPixIn d) ∧
    (t.pixXy = s.pixXy ∨ ∃ d, i = .wrPixXy d) ∧
    (t.pixOut = s.pixOut ∨ i = .cmdPixel) ∧
    (t.frameMin = s.frameMin ∨ ∃ d, i = .wrFrameMin d) ∧
    (t.frameMax = s.frameMax ∨ ∃ d, i = .wrFrameMax d) ∧
    (t.pending = s.pending ∨ i = .cmdFrame) ∧
    t.srcPresent = s.srcPresent ∧ t.srcHp = s.srcHp ∧ t.schedule = s.schedule ∧ t.overlap = s.overlap ∧
    t.draws = s.draws ∧ t.hostPixel = s.hostPixel

/-- R55, R56: no transaction writes a pixel of either image; every pixel reads as before. -/
def Obligations.TransactionsLeaveImages : Prop :=
  ∀ (i : Instr) (s t : State), exec i s = .next t →
    ∀ c : Coord, dstAt t.dst c = dstAt s.dst c ∧ srcAt t.src c = srcAt s.src c

/-- R115, R141: while a frame runs, no step but a reset changes LOSS, GAMMA, the LUT or the rectangle. -/
def Obligations.RunningFrameKeepsItsOperands : Prop :=
  ∀ s t : State, busy s = true → (nextEvent s).1 ≠ .reset → step s = .next t →
    t.loss = s.loss ∧ t.gamma = s.gamma ∧ t.lut = s.lut ∧ t.frameMin = s.frameMin ∧ t.frameMax = s.frameMax

/-- R215: with nothing scheduled and no frame running, a step changes nothing. -/
def Obligations.IdleBlockKeepsState : Prop :=
  ∀ s : State, s.schedule = [] → busy s = false → step s = .next s

/-- R37, R236, R240: while no frame runs, an input changes at once, shows in its STATUS bit, and changes nothing
else; driving an input that is 1 already to 1 does the same while a frame runs, since it is no change. -/
def Obligations.InputsFollowPlatform : Prop :=
  ∀ (s : State) (b : Bool),
    (busy s = false ∨ (b = true ∧ s.srcPresent = true) →
      runEvent (.srcPresent b) s = .next { s with srcPresent := b }) ∧
    (busy s = false ∨ (b = true ∧ s.srcHp = true) → runEvent (.srcHp b) s = .next { s with srcHp := b }) ∧
    (statusWord { s with srcPresent := b }).getLsbD 16 = b ∧ (statusWord { s with srcHp := b }).getLsbD 17 = b

/-- R236, R237, U10: a change of a source pixel changes that pixel alone, and during a frame it is a breach
exactly at the frame's coordinates; a side effect of a source read does nothing outside a frame; the platform
may let the images overlap, but not during a frame. The records `breach`, `draws` and `overlap`, that a store of
the value the pixel already holds counts as a change, and the refusal of an overlap that begins during a frame,
are the model's (log entries 9 and 11). -/
def Obligations.SourceAndOverlapEvents : Prop :=
  ∀ s : State,
    (∀ (c : Coord) (p : SrcPixel), ∃ t : State, runEvent (.srcWrite c p) s = .next t ∧
      srcAt t.src c = p ∧ (∀ d : Coord, d ≠ c → srcAt t.src d = srcAt s.src d) ∧
      t = if busy s && inFrame s c then { s with src := t.src, breach := some s.draws, draws := s.draws + 1 }
        else { s with src := t.src }) ∧
    (busy s = false → runEvent .srcSideEffect s = .next s) ∧
    (∀ b : Bool, b = false ∨ busy s = false → runEvent (.overlap b) s = .next { s with overlap := b }) ∧
    (busy s = true → runEvent (.overlap true) s = .refused .overlappingImages)

/-! ### The sequencer and the frame -/

/-- R173, R174: a sequencer step takes one pending coordinate, writes the dithered source pixel there and no
other pixel, removes it, and sets DONE when none is left; any pending coordinate can be the one. The model's
record of the pixels before the frame (log entry 10) stays until the step that ends the frame. -/
def Obligations.SequencerStepWritesOnePixel : Prop :=
  ∀ s : State, busy s = true → s.breach = none → s.kept = [] →
    (∀ c ∈ s.pending, ∃ k, picked s k = some c) ∧
    ∀ k : Nat, ∃ (c : Coord) (t : State), c ∈ s.pending ∧ picked s k = some c ∧
      runEvent (.sequencer k) s = .next t ∧
      dstAt t.dst c = pix Config.params s.lut s.loss s.gamma c (srcAt s.src c) ∧
      (∀ d : Coord, d ≠ c → dstAt t.dst d = dstAt s.dst d) ∧
      t.pending = s.pending.erase c ∧ t.done = (s.done || t.pending.isEmpty) ∧
      t = { s with
        pending := t.pending, dst := t.dst, done := t.done, preFrame := if busy t then s.preFrame else [] }

/-- R243: with nothing scheduled the sequencer runs, and a frame completes after exactly as many steps as it
has coordinates. -/
def Obligations.FrameCompletesAfterItsCoordinates : Prop :=
  ∀ s : State, s.schedule = [] → busy s = true →
    (∃ t : State, Sys2Proof.core.run s.pending.length s = .next t ∧ busy t = false ∧ t.done = true) ∧
    ∀ m : Nat, m < s.pending.length →
      ∃ u : State, Sys2Proof.core.run m s = .next u ∧ busy u = true ∧ u.pending.length = s.pending.length - m

/-- R34, R63, R64, R173, R176: while the duties of R236 and R237 are kept, every step of a running frame, the
last one too, leaves every pixel of the rectangle either still pending and as it was before the frame, or
dithered; and the step that ends the frame sets DONE. -/
def Obligations.StepKeepsFrameProgress : Prop :=
  ∀ s t : State, busy s = true → PendingInFrame s → FrameProgress s → dutiful s (nextEvent s).1 = true →
    (nextEvent s).1 ≠ .reset → step s = .next t →
      (∀ c : Coord, inFrame s c = true → dstAt t.dst c =
        if c ∈ t.pending then dstAt s.preFrame c else pixOf Config.params s c (srcAt s.src c)) ∧
      (if busy t then FrameProgress t ∧ PendingInFrame t else t.done = true)

/-- The inference of R176, from R172, R173, R174 and R114: the result of a frame. From the acceptance of a
FRAME, through any interleaving of host transactions and sequencer steps in any order, the destination ends up
holding the dithered source pixel at every coordinate of the rectangle and what it held before everywhere else.
-/
def Obligations.FrameResultForEveryOrder : Prop :=
  ∀ (s : State) (tw : Transaction) (es : List Event) (k : Nat),
    busy s = false → s.srcPresent = true → s.srcHp = true → s.overlap = false →
    decode tw = .ok .cmdFrame → s.schedule = .transaction tw :: (es ++ [.sequencer k]) →
    (∀ e ∈ es, isFrameEvent e = true) →
    (es.filter isSequencerStep).length + 1 = (rectangle s.frameMin s.frameMax).length →
    ∃ t : State, Sys2Proof.core.run (es.length + 2) s = .next t ∧ busy t = false ∧ t.done = true ∧
      ∀ c : Coord, dstAt t.dst c =
        if inFrame s c then pix Config.params s.lut s.loss s.gamma c (srcAt s.src c) else dstAt s.dst c

/-! ### Reset, breaches and races -/

/-- R230, R233: reset puts every register and PENDING at its reset value, a running frame ends with DONE 0, and
the inputs stay. That `irq` is 0 then is the spec's own inference in R230 ("derived: from rule R206"). -/
def Obligations.ResetLeavesResetValues : Prop :=
  ∀ s : State, ∃ t : State, runEvent .reset s = .next t ∧
    t.done = false ∧ t.err = false ∧ t.rej = false ∧ t.errCode = 0 ∧ t.irqen = 0 ∧ t.loss = 0 ∧
    t.gamma = 0x400199999999999A ∧ t.pixIn = 0 ∧ t.pixXy = 0 ∧ t.pixOut = 0 ∧ t.frameMin = 0 ∧
    t.frameMax = 0 ∧ t.pending = [] ∧ busy t = false ∧ irq t = false ∧
    t.srcPresent = s.srcPresent ∧ t.srcHp = s.srcHp

/-- R231, R232: reset refills the LUT from the default gamma, where there is one, and changes neither image. The
ROMs are constants of the configuration, which no step changes. -/
def Obligations.ResetRefillsLutAndKeepsImages : Prop :=
  ∀ s : State, ∃ t : State, runEvent .reset s = .next t ∧ t.src = s.src ∧ t.dst = s.dst ∧
    match Config.params.linearizer with
    | .power => t.lut = none
    | .lut => ∃ table : Lut, t.lut = some table ∧ ∀ v : Sample8,
        table[v.toNat] = pow Config.params (fdiv (f64 v.toNat) (f64 255)) 0x400199999999999A

/-- R230, R231: the machine right after reset. The unbound source is the model's choice (log entry 5). -/
def Obligations.ResetStateValues : Prop :=
  statusWord State.reset = 0 ∧ State.reset.irqen = 0 ∧ State.reset.loss = 0 ∧
  State.reset.gamma = 0x400199999999999A ∧ State.reset.pixIn = 0 ∧ State.reset.pixXy = 0 ∧
  State.reset.pixOut = 0 ∧ State.reset.frameMin = 0 ∧ State.reset.frameMax = 0 ∧
  State.reset.pending = [] ∧ State.reset.lut = lutFill Config.params 0x400199999999999A ∧
  irq State.reset = false

/-- R236, R240: a breach of the source duty during a frame changes the input or the source pixel concerned, writes
nothing and ends nothing; from then on, until the frame ends, every step but a reset keeps it, and the pixel the
sequencer writes at any coordinate still pending is a free value of the breach and the coordinate, and no other
pixel changes. The draw number that stands for the breach, that a store of the value a source pixel already holds
is a breach, and that a host write kept there stays, are the model's (log entries 9 and 10). -/
def Obligations.BreachFreesUnwrittenPixels : Prop :=
  ∀ s : State, busy s = true →
    (∀ b : Bool, (b && s.srcPresent) = false → runEvent (.srcPresent b) s =
      .next { s with srcPresent := b, breach := some s.draws, draws := s.draws + 1 }) ∧
    (∀ b : Bool, (b && s.srcHp) = false → runEvent (.srcHp b) s =
      .next { s with srcHp := b, breach := some s.draws, draws := s.draws + 1 }) ∧
    (∀ (c : Coord) (p : SrcPixel), inFrame s c = true → runEvent (.srcWrite c p) s =
      .next { s with src := memWrite s.src (coordKey c) p, breach := some s.draws, draws := s.draws + 1 }) ∧
    runEvent .srcSideEffect s = .next { s with breach := some s.draws, draws := s.draws + 1 } ∧
    ∀ n : Nat, s.breach = some n →
      (∀ t : State, (nextEvent s).1 ≠ .reset → step s = .next t → busy t = true →
        ∃ m : Nat, t.breach = some m ∧ ∀ c ∈ t.pending, frameValue Config.params t c = Config.freePixel m c) ∧
      ∀ (k : Nat) (c : Coord), picked s k = some c →
        (c ∉ s.kept → dstAt (sequencerStep Config.params k s).dst c = Config.freePixel n c) ∧
        ∀ d : Coord, d ≠ c → dstAt (sequencerStep Config.params k s).dst d = dstAt s.dst d

/-- R237, U9: a host read of a destination pixel of a running frame can see the value before the frame and the
value the frame writes: at a coordinate still pending the one it will write, at one already written the one
the destination holds, which is the dithered source pixel where the duties have been kept; away from the frame
it sees what the destination holds. It changes nothing else. The values before the frame are those recorded at
its acceptance: no step but a reset changes them while BUSY stays 1. That record, that a read may see the host's
own value where the host wrote a coordinate still pending, and that a host write that survived is seen in the
place of the frame's own, are the model's (log entry 10). -/
def Obligations.HostReadRace : Prop :=
  (∀ s t : State, busy s = true → (nextEvent s).1 ≠ .reset → step s = .next t → busy t = true →
    t.preFrame = s.preFrame) ∧
  ∀ (s : State) (c : Coord) (sees : RaceRead),
    ∃ v : DstPixel, runEvent (.dstRead c sees) s = .next { s with hostPixel := some v } ∧
      (races s c = false → v = dstAt s.dst c) ∧
      (races s c = true → sees = .before → v = dstAt s.preFrame c) ∧
      (races s c = true → sees = .now → v = dstAt s.dst c) ∧
      (races s c = true → sees = .frame → c ∈ s.pending → v = frameValue Config.params s c) ∧
      (races s c = true → sees = .frame → c ∉ s.pending → v = dstAt s.dst c ∧
        (FrameProgress s → v = pixOf Config.params s c (srcAt s.src c))) ∧
      (races s c = true → v = dstAt s.preFrame c ∨ v = dstAt s.dst c ∨ v = frameValue Config.params s c)

/-- R237, U9: a host write at a coordinate of a running frame is kept or overwritten, both ways; other pixels
stay, and away from the frame the write lands. At a coordinate still pending the outcome holds until the frame
comes there: every step but a reset and a host write there leaves the pixel and the outcome, and the step that
takes the coordinate leaves the pixel where the host write survives and writes the frame's value elsewhere. The
record of the outcome is the model's (log entry 10). -/
def Obligations.HostWriteRace : Prop :=
  ∀ (s : State) (c : Coord),
    (∀ (v : DstPixel) (survives : Bool), ∃ t : State, runEvent (.dstWrite c v survives) s = .next t ∧
      (∀ d : Coord, d ≠ c → dstAt t.dst d = dstAt s.dst d ∧ (d ∈ t.kept ↔ d ∈ s.kept)) ∧
      (races s c = false → dstAt t.dst c = v) ∧
      (races s c = true → c ∉ s.pending → dstAt t.dst c = if survives then v else dstAt s.dst c) ∧
      (races s c = true → c ∈ s.pending → dstAt t.dst c = v ∧ (c ∈ t.kept ↔ survives = true)) ∧
      t = { s with dst := t.dst, kept := t.kept }) ∧
    ∀ t : State, PendingInFrame s → c ∈ s.pending → (nextEvent s).1 ≠ .reset →
      (∀ v b, (nextEvent s).1 ≠ .dstWrite c v b) → step s = .next t →
      if c ∈ t.pending then dstAt t.dst c = dstAt s.dst c ∧ (c ∈ t.kept ↔ c ∈ s.kept)
      else dstAt t.dst c = if c ∈ s.kept then dstAt s.dst c else frameValue Config.params s c

/-! ### Invariants -/

/-- The invariant holds at reset. -/
def Obligations.ResetMeetsInvariant : Prop := StateInv State.reset

/-- Every step keeps the invariant: the error code is legal and agrees with ERR (inferred in R24), GAMMA is
positive, the LUT is the power law of GAMMA, PENDING lies in the rectangle (inferred in R34) without repeats,
the images stay canonical (log entry 6). -/
def Obligations.StepKeepsInvariant : Prop :=
  ∀ s t : State, StateInv s → step s = .next t → StateInv t

/-! ### The datapath -/

/-- R7: the four properties of the power function. -/
def Obligations.PowerFunctionProperties : Prop :=
  ∀ P : Params,
    (∀ g, fgt g fzero = true → pow P 0x0000000000000000 g = 0x0000000000000000) ∧
    (∀ g, pow P 0x3FF0000000000000 g = 0x3FF0000000000000) ∧
    (∀ q, pow P q 0x3FF0000000000000 = q) ∧
    (∀ q g, inUnit q = true → fgt g fzero = true → inUnit (pow P q g) = true)

/-- R101, R102: the high byte is kept, and 255 is bypassed at every level, gamma and noise value. -/
def Obligations.WhiteIsBypassed : Prop :=
  ∀ (P : Params) (lut : Option Lut) (L : Level) (G n : F64) (s16 : Sample16),
    s16.extractLsb' 8 8 = 255 → channel P lut L G n s16 = 255

/-- R103, R104, R105: the bracket selector, as its pseudocode. -/
def Obligations.BracketSelector : Prop :=
  ∀ (P : Params) (L : Level) (s8 : Sample8), s8 ≠ 255 →
    let low := if 0 < s8.toNat >>> L.toNat then s8.toNat >>> L.toNat - 1 else 0
    bracket P L s8 =
      if expand P L (low + 1) ≤ s8 then (expand P L (low + 1), expand P L (low + 2))
      else (expand P L low, expand P L (low + 1))

/-- The inference of R106: every index the bracket selector reads is at most `M(L)`, which is at most 255;
entries above it do not matter. -/
def Obligations.BracketIndexRange : Prop :=
  (∀ (L : Level) (s8 : Sample8), s8 ≠ 255 → lowIndex L s8 + 2 ≤ maxIndex L ∧ maxIndex L ≤ 255) ∧
  ∀ (P Q : Params) (L : Level) (s8 : Sample8), s8 ≠ 255 →
    (∀ i, i ≤ maxIndex L → expand P L i = expand Q L i) → bracket P L s8 = bracket Q L s8

/-- R107: the row and column are the mathematical remainders of the signed coordinates by 16, and the lookup
has period 16 along both axes. -/
def Obligations.NoiseIndexIsMod16 : Prop :=
  ∀ c : Coord,
    ((noiseIndex c).1.toNat : Int) = c.y.toInt % 16 ∧ ((noiseIndex c).2.toNat : Int) = c.x.toInt % 16 ∧
    noiseIndex ⟨c.x + 16, c.y⟩ = noiseIndex c ∧ noiseIndex ⟨c.x, c.y + 16⟩ = noiseIndex c

/-- R110: with a LUT the linearizer is its entry; a LUT filled for a gamma gives the bits of the power law for
every operand, so both variants dither alike. -/
def Obligations.LutGivesPowerLaw : Prop :=
  ∀ (P : Params) (L : Level) (G : F64) (c : Coord) (p : SrcPixel),
    (∀ (table : Lut) (v : Sample8), lin P (some table) G v = table[v.toNat]) ∧
    (∀ v : Sample8, lin P (some (lutTable P G)) G v = lin P none G v) ∧
    pix P (lutFill P G) L G c p = pix P none L G c p

/-- R109: LIN is the power law of the sample over 255; its values at the ends of the range and at gamma 1. That
it lies in [0, 1] for a positive gamma follows with POW_RANGE of R7. -/
def Obligations.LinearizerEndpoints : Prop :=
  ∀ (P : Params) (G : F64),
    (∀ v : Sample8, lin P none G v = pow P (fdiv (f64 v.toNat) (f64 255)) G) ∧
    (fgt G fzero = true → lin P none G 0 = 0x0000000000000000) ∧
    lin P none G 255 = 0x3FF0000000000000 ∧
    (∀ v : Sample8, lin P none 0x3FF0000000000000 v = fdiv (f64 v.toNat) (f64 255)) ∧
    (fgt G fzero = true → ∀ v : Sample8, inUnit (lin P none G v) = true)

/-- R111: two differences and a quotient, in that order; where the denominator is `+0.0`, the position is NaN,
`+inf` or `-inf` by the numerator. -/
def Obligations.PositionOverZero : Prop :=
  ∀ fs fl fu : F64, position fs fl fu = fdiv (fsub fs fl) (fsub fu fl) ∧ (fsub fu fl = 0x0000000000000000 →
    ((fsub fs fl = 0x0000000000000000 ∨ fsub fs fl = 0x8000000000000000) → isNan (position fs fl fu) = true) ∧
    (fgt (fsub fs fl) fzero = true → position fs fl fu = 0x7FF0000000000000) ∧
    (fgt fzero (fsub fs fl) = true → position fs fl fu = 0xFFF0000000000000))

/-- R112: the comparator is strict; a NaN position selects `lower`, `+inf` selects `upper` for a finite noise
value, and `-inf`, `-0.0` and `+0.0` select `lower` for one that is not negative. -/
def Obligations.ComparatorIsStrict : Prop :=
  ∀ (pos n : F64) (lower upper : Sample8),
    (fgt pos n = true → select pos n lower upper = upper) ∧
    (fgt pos n = false → select pos n lower upper = lower) ∧
    (isNan pos = true → select pos n lower upper = lower) ∧
    select n n lower upper = lower ∧
    (isNan n = false → isInf n = false → select 0x7FF0000000000000 n lower upper = upper) ∧
    (fle fzero n = true → select 0xFFF0000000000000 n lower upper = lower ∧
      select 0x8000000000000000 n lower upper = lower ∧ select 0x0000000000000000 n lower upper = lower)

/-- R108, R113: the pixel function: four channels, one noise value, R in the low byte. -/
def Obligations.PixelFunction : Prop :=
  ∀ (P : Params) (lut : Option Lut) (L : Level) (G : F64) (c : Coord) (p : SrcPixel),
    let n := P.noise (c.y.extractLsb' 0 4) (c.x.extractLsb' 0 4)
    (pix P lut L G c p).extractLsb' 0 8 = channel P lut L G n (p.extractLsb' 0 16) ∧
    (pix P lut L G c p).extractLsb' 8 8 = channel P lut L G n (p.extractLsb' 16 16) ∧
    (pix P lut L G c p).extractLsb' 16 8 = channel P lut L G n (p.extractLsb' 32 16) ∧
    (pix P lut L G c p).extractLsb' 24 8 = channel P lut L G n (p.extractLsb' 48 16)

/-- R114: a pixel depends on its coordinate only through the coordinates modulo 16. -/
def Obligations.PixelDependsOnCoordinateMod16 : Prop :=
  ∀ (P : Params) (lut : Option Lut) (L : Level) (G : F64) (c d : Coord) (p : SrcPixel),
    c.x.toInt % 16 = d.x.toInt % 16 → c.y.toInt % 16 = d.y.toInt % 16 → pix P lut L G c p = pix P lut L G d p

/-- The inference of R116: lossiness 0 is the identity, for every gamma greater than zero and every noise value
that is not negative and not NaN, in both variants. -/
def Obligations.LossinessZeroIsIdentity : Prop :=
  ∀ (P : Params) (G n : F64) (s16 : Sample16), fgt G fzero = true → fle fzero n = true →
    channel P (lutFill P G) 0 G n s16 = s16.extractLsb' 8 8

/-- Source property S3 (95_test_vectors.md): under `WF_TOP(L)` every output is a grid value of level `L`. -/
def Obligations.OutputOnGrid : Prop :=
  ∀ (P : Params) (lut : Option Lut) (L : Level) (G n : F64) (s16 : Sample16), RowTop P L →
    ∃ k, k ≤ maxIndex L ∧ channel P lut L G n s16 = expand P L k

/-- Source property S4 (95_test_vectors.md): the channel function does not decrease in the sample, for fixed
lossiness, gamma and noise, under `WF_MONO(L)`, `WF_BRACKET(L)` and a power function that does not
decrease. -/
def Obligations.DitherIsMonotone : Prop :=
  ∀ (P : Params) (L : Level) (G n : F64) (a b : Sample16), RowMono P L → RowBrackets P L →
    fgt G fzero = true → PowMono P G → a ≤ b →
      channel P (lutFill P G) L G n a ≤ channel P (lutFill P G) L G n b
end

