-- ==== Sys2Proof/Laws/Float.lean ====
section
/-! SUPPORT. The laws of the binary64 operations (00_scope.md R14) that the datapath needs: zeros, order,
and that one rounding does not reverse an order. -/

namespace Sys2Proof.Machine

open Sys2Proof

/-! ### Encodings -/

theorem fpack_toNat (neg : Bool) (mag : Nat) (h : mag < 2 ^ 63) :
    (fpack neg mag).toNat = (if neg then 2 ^ 63 else 0) + mag := by
  unfold fpack
  rw [BitVec.toNat_ofNat]
  cases neg <;> simp <;> omega

theorem fmag_fpack (neg : Bool) (mag : Nat) (h : mag < 2 ^ 63) : fmag (fpack neg mag) = mag := by
  rw [fmag, fpack_toNat neg mag h]
  cases neg <;> (simp; omega)

theorem fneg_eq (a : F64) : fneg a = decide (2 ^ 63 ≤ a.toNat) := by
  have := BitVec.msb_eq_decide a
  simpa [fneg, BitVec.msb_eq_getLsbD_last] using this

theorem fneg_fpack (neg : Bool) (mag : Nat) (h : mag < 2 ^ 63) : fneg (fpack neg mag) = neg := by
  rw [fneg_eq, fpack_toNat neg mag h]
  cases neg
  · simp; omega
  · simp

theorem infMag_lt : infMag < 2 ^ 63 := by decide

/-- The order of an encoding built from its sign and magnitude. -/
theorem forder_fpack (neg : Bool) (mag : Nat) (h : mag < 2 ^ 63) :
    forder (fpack neg mag) = if neg then -(mag : Int) else mag := by
  simp only [forder, fneg_fpack neg mag h, fmag_fpack neg mag h]

/-- A finite value: neither NaN nor an infinity. -/
def IsFinite (a : F64) : Prop := fmag a < infMag

theorem IsFinite.not_nan {a : F64} (h : IsFinite a) : isNan a = false := by
  simp only [isNan, decide_eq_false_iff_not]; unfold IsFinite at h; omega

theorem IsFinite.not_inf {a : F64} (h : IsFinite a) : isInf a = false := by
  simp only [isInf, beq_eq_false_iff_ne]; unfold IsFinite at h; omega

/-! ### Units -/

/-- The units of a magnitude. -/
def unitsOf (m : Nat) : Nat := if m / 2 ^ 52 = 0 then m % 2 ^ 52 else (2 ^ 52 + m % 2 ^ 52) * 2 ^ (m / 2 ^ 52 - 1)

theorem units_eq (a : F64) : units a = unitsOf (fmag a) := rfl

/-- A larger magnitude is more units. -/
theorem unitsOf_lt {m n : Nat} (h : m < n) : unitsOf m < unitsOf n := by
  unfold unitsOf
  generalize hp : (2 : Nat) ^ 52 = p
  have hp0 : 0 < p := by rw [← hp]; exact Nat.two_pow_pos _
  have hm := Nat.div_add_mod m p
  have hn := Nat.div_add_mod n p
  have hmf := Nat.mod_lt m hp0
  have hnf := Nat.mod_lt n hp0
  generalize m / p = e at *
  generalize n / p = e' at *
  generalize m % p = f at *
  generalize n % p = f' at *
  have hle : e ≤ e' := by
    by_contra hc
    have hmul : p * (e' + 1) ≤ p * e := Nat.mul_le_mul_left p (by omega)
    rw [Nat.mul_add, Nat.mul_one] at hmul
    omega
  rcases Nat.lt_or_eq_of_le hle with hlt | rfl
  · have he' : ¬ e' = 0 := by omega
    rw [if_neg he']
    have hpow : 2 ^ e ≤ 2 ^ (e' - 1) * 1 * 1 := by
      simp only [Nat.mul_one]; exact Nat.pow_le_pow_right (by omega) (by omega)
    simp only [Nat.mul_one] at hpow
    have hbig : p * 2 ^ e ≤ (p + f') * 2 ^ (e' - 1) := Nat.mul_le_mul (by omega) hpow
    split
    · next he =>
      have h1 : 1 ≤ 2 ^ e := Nat.one_le_two_pow
      have h2 : p * 1 ≤ p * 2 ^ e := Nat.mul_le_mul_left p h1
      omega
    · next he =>
      have h2 : 2 ^ e = 2 * 2 ^ (e - 1) := by
        rw [← Nat.pow_succ']; congr 1; omega
      have h3 : (p + f) * 2 ^ (e - 1) < (p + p) * 2 ^ (e - 1) :=
        Nat.mul_lt_mul_of_pos_right (by omega) (Nat.two_pow_pos _)
      have h4 : (p + p) * 2 ^ (e - 1) = p * 2 ^ e := by rw [h2]; ring
      omega
  · have hf : f < f' := by omega
    clear hm hn
    split
    · exact hf
    · exact Nat.mul_lt_mul_of_pos_right (by omega) (Nat.two_pow_pos _)

theorem unitsOf_zero : unitsOf 0 = 0 := by decide

theorem unitsOf_le {m n : Nat} (h : m ≤ n) : unitsOf m ≤ unitsOf n := by
  rcases Nat.lt_or_eq_of_le h with h | rfl
  · exact Nat.le_of_lt (unitsOf_lt h)
  · exact Nat.le_refl _

/-- The order of two values is the order of their signed units. -/
theorem signedUnits_lt {a b : F64} (h : forder a < forder b) : signedUnits a < signedUnits b := by
  simp only [forder, signedUnits, units_eq] at *
  cases ha : fneg a <;> cases hb : fneg b <;> simp only [ha, hb, Bool.false_eq_true, if_false, if_true] at *
  · have := unitsOf_lt (m := fmag a) (n := fmag b) (by omega); omega
  · omega
  · rcases Nat.eq_zero_or_pos (fmag a) with h0 | h0
    · have := unitsOf_lt (m := 0) (n := fmag b) (by omega)
      rw [unitsOf_zero] at this
      omega
    · have := unitsOf_lt (m := 0) (n := fmag a) h0
      rw [unitsOf_zero] at this
      omega
  · have := unitsOf_lt (m := fmag b) (n := fmag a) (by omega); omega

theorem signedUnits_le {a b : F64} (h : forder a ≤ forder b) : signedUnits a ≤ signedUnits b := by
  by_contra hc
  rcases Int.lt_or_eq_of_le h with h | h
  · have := signedUnits_lt h; omega
  · simp only [forder, signedUnits, units_eq] at *
    cases ha : fneg a <;> cases hb : fneg b <;> simp only [ha, hb, Bool.false_eq_true, if_false, if_true] at *
    · have : fmag a = fmag b := by omega
      rw [this] at hc; omega
    · have h1 : fmag a = 0 := by omega
      have h2 : fmag b = 0 := by omega
      rw [h1, h2, unitsOf_zero] at hc; omega
    · have h1 : fmag a = 0 := by omega
      have h2 : fmag b = 0 := by omega
      rw [h1, h2, unitsOf_zero] at hc; omega
    · have : fmag a = fmag b := by omega
      rw [this] at hc; omega

/-! ### Rounding -/

theorem roundNat_le {n m d : Nat} (hd : 0 < d) (h : n ≤ m) : roundNat n d ≤ roundNat m d := by
  unfold roundNat
  have hn := Nat.div_add_mod n d
  have hm := Nat.div_add_mod m d
  have hnl := Nat.mod_lt n hd
  have hml := Nat.mod_lt m hd
  have hq := Nat.div_le_div_right (c := d) h
  rcases Nat.lt_or_eq_of_le hq with hlt | heq
  · simp only
    split <;> split <;> omega
  · have hr : n % d ≤ m % d := by
      have : d * (n / d) = d * (m / d) := by rw [heq]
      omega
    simp only [heq]
    split
    · next h1 =>
      split
      · exact Nat.le_refl _
      · next h2 =>
        exfalso
        simp only [Bool.or_eq_true, decide_eq_true_eq, Bool.and_eq_true, beq_iff_eq, not_or, not_and] at h1 h2
        rcases h1 with h1 | ⟨h1, h3⟩
        · omega
        · rcases Nat.lt_or_eq_of_le hr with h4 | h4
          · omega
          · rw [← h4] at h2; exact h2.2 h1 h3
    · split <;> omega

theorem roundNat_bounds (n d : Nat) : n / d ≤ roundNat n d ∧ roundNat n d ≤ n / d + 1 := by
  unfold roundNat
  simp only
  split <;> omega

theorem roundShift_lt (num den : Nat) : num / (den * 2 ^ roundShift num den) < 2 ^ 53 := by
  rw [← Nat.div_div_eq_div_mul]
  generalize hq : num / den = q
  have hs : roundShift num den = q.log2 + 1 - 53 := by rw [roundShift, hq]
  rw [hs, Nat.div_lt_iff_lt_mul (Nat.two_pow_pos _), ← Nat.pow_add]
  exact Nat.lt_of_lt_of_le (Nat.lt_log2_self (n := q)) (Nat.pow_le_pow_right (by omega) (by omega))

theorem le_roundShift {num den : Nat} (h : 0 < roundShift num den) :
    2 ^ 52 ≤ num / (den * 2 ^ roundShift num den) := by
  rw [← Nat.div_div_eq_div_mul]
  have hs : roundShift num den = (num / den).log2 + 1 - 53 := rfl
  generalize num / den = q at *
  have hq : q ≠ 0 := by rintro rfl; simp [hs] at h
  rw [Nat.le_div_iff_mul_le (Nat.two_pow_pos _), ← Nat.pow_add]
  have : 2 ^ q.log2 ≤ q := Nat.log2_self_le hq
  exact Nat.le_trans (Nat.pow_le_pow_right (by omega) (by omega)) this

theorem roundShift_le {n m d : Nat} (h : n ≤ m) : roundShift n d ≤ roundShift m d := by
  have hq := Nat.div_le_div_right (c := d) h
  have : (n / d).log2 ≤ (m / d).log2 := by
    rw [Nat.log2_eq_log_two, Nat.log2_eq_log_two]; exact Nat.log_mono_right hq
  unfold roundShift
  omega

/-- Rounding does not reverse an order. -/
theorem roundMag_le {n m d : Nat} (hd : 0 < d) (h : n ≤ m) : roundMag n d ≤ roundMag m d := by
  unfold roundMag
  simp only
  have hs := roundShift_le (d := d) h
  have key : roundShift n d * 2 ^ 52 + roundNat n (d * 2 ^ roundShift n d) ≤
      roundShift m d * 2 ^ 52 + roundNat m (d * 2 ^ roundShift m d) := by
    rcases Nat.lt_or_eq_of_le hs with hlt | heq
    · have h1 := roundShift_lt n d
      have h2 := le_roundShift (num := m) (den := d) (by omega)
      have h3 := (roundNat_bounds n (d * 2 ^ roundShift n d)).2
      have h4 := (roundNat_bounds m (d * 2 ^ roundShift m d)).1
      have h5 : (roundShift n d + 1) * 2 ^ 52 ≤ roundShift m d * 2 ^ 52 := Nat.mul_le_mul_right _ hlt
      omega
    · rw [heq]
      have := roundNat_le (Nat.mul_pos hd (Nat.two_pow_pos (roundShift m d))) h
      omega
  omega

theorem roundMag_le_inf (n d : Nat) : roundMag n d ≤ infMag := Nat.min_le_right _ _

theorem roundMag_lt (n d : Nat) : roundMag n d < 2 ^ 63 :=
  Nat.lt_of_le_of_lt (roundMag_le_inf n d) infMag_lt

theorem roundMag_zero (d : Nat) : roundMag 0 d = 0 := by
  simp [roundMag, roundShift, roundNat]

/-! ### Subtraction and division -/

theorem fsub_finite {a b : F64} (ha : IsFinite a) (hb : IsFinite b) :
    fsub a b = if signedUnits a - signedUnits b = 0 then fpack (fneg a && !fneg b) 0
      else fpack (decide (signedUnits a - signedUnits b < 0)) (roundMag (signedUnits a - signedUnits b).natAbs 1) := by
  simp [fsub, ha.not_nan, hb.not_nan, ha.not_inf, hb.not_inf]

/-- The order of a difference: the rounded exact difference. -/
theorem forder_fsub {a b : F64} (ha : IsFinite a) (hb : IsFinite b) :
    forder (fsub a b) = if signedUnits a - signedUnits b < 0
      then -(roundMag (signedUnits a - signedUnits b).natAbs 1 : Int)
      else (roundMag (signedUnits a - signedUnits b).natAbs 1 : Int) := by
  rw [fsub_finite ha hb]
  generalize signedUnits a - signedUnits b = d
  split
  · next h => subst h; rw [forder_fpack _ _ (by decide)]; simp [roundMag_zero]
  · rw [forder_fpack _ _ (roundMag_lt _ _)]; simp

/-- A finite value less itself is `+0.0`. -/
theorem fsub_self {a : F64} (ha : IsFinite a) : fsub a a = fzero := by
  rw [fsub_finite ha ha]
  simp [fpack, fzero]

/-- A rounded signed count of units. -/
theorem signedRound_le {d d' : Int} (h : d ≤ d') :
    (if d < 0 then -(roundMag d.natAbs 1 : Int) else (roundMag d.natAbs 1 : Int)) ≤
      if d' < 0 then -(roundMag d'.natAbs 1 : Int) else (roundMag d'.natAbs 1 : Int) := by
  split <;> split
  · have := roundMag_le (n := d'.natAbs) (m := d.natAbs) (d := 1) (by omega) (by omega); omega
  · omega
  · omega
  · have := roundMag_le (n := d.natAbs) (m := d'.natAbs) (d := 1) (by omega) (by omega); omega

theorem fsub_le_left {a b c : F64} (ha : IsFinite a) (hb : IsFinite b) (hc : IsFinite c) (h : forder a ≤ forder b) :
    forder (fsub a c) ≤ forder (fsub b c) := by
  rw [forder_fsub ha hc, forder_fsub hb hc]
  have := signedUnits_le h
  exact signedRound_le (by omega)

theorem fsub_nonneg {a b : F64} (ha : IsFinite a) (hb : IsFinite b) (h : forder b ≤ forder a) :
    0 ≤ forder (fsub a b) := by
  rw [forder_fsub ha hb, if_neg (by have := signedUnits_le h; omega)]
  omega

theorem fdiv_finite {a b : F64} (ha : IsFinite a) (hb : IsFinite b) (h : units b ≠ 0) :
    fdiv a b = fpack (fneg a != fneg b) (roundMag (units a * unitScale) (units b)) := by
  simp only [fdiv, ha.not_nan, hb.not_nan, ha.not_inf, hb.not_inf, Bool.or_self, Bool.false_eq_true, if_false, if_neg h]

theorem isNan_fnan : isNan fnan = true := by decide

/-- `0 / 0` is NaN (R14). -/
theorem fdiv_zero_zero {a b : F64} (ha : IsFinite a) (hb : IsFinite b) (hau : units a = 0) (hbu : units b = 0) :
    fdiv a b = fnan := by
  simp [fdiv, ha.not_nan, hb.not_nan, ha.not_inf, hb.not_inf, hau, hbu]

/-- A value that is not negative is its magnitude. -/
theorem units_of_nonneg {a : F64} (h : 0 ≤ forder a) : signedUnits a = units a := by
  simp only [forder, signedUnits, units_eq] at *
  split
  · next hn =>
    rw [if_pos hn] at h
    have : fmag a = 0 := by omega
    rw [this, unitsOf_zero]; rfl
  · rfl

theorem units_eq_zero_iff (a : F64) : units a = 0 ↔ fmag a = 0 := by
  rw [units_eq]
  constructor
  · intro h
    by_contra hc
    have := unitsOf_lt (Nat.pos_of_ne_zero hc)
    omega
  · intro h; rw [h, unitsOf_zero]

/-- The order of a quotient of values that are not negative. -/
theorem forder_fdiv {a b : F64} (ha : IsFinite a) (hb : IsFinite b) (h0 : 0 ≤ forder a) (hpos : 0 < forder b) :
    forder (fdiv a b) = roundMag (units a * unitScale) (units b) := by
  have hbn : fneg b = false := by
    cases hn : fneg b with
    | false => rfl
    | true => simp only [forder, hn, if_true] at hpos; omega
  have hbm : 0 < fmag b := by simpa [forder, hbn] using hpos
  have hbu : units b ≠ 0 := mt (units_eq_zero_iff b).1 (Nat.pos_iff_ne_zero.1 hbm)
  rw [fdiv_finite ha hb hbu, forder_fpack _ _ (roundMag_lt _ _), hbn]
  cases hn : fneg a with
  | false => exact if_neg (by decide)
  | true =>
    have : fmag a = 0 := by simp only [forder, hn, if_true] at h0; omega
    have : units a = 0 := (units_eq_zero_iff a).2 this
    rw [this, Nat.zero_mul, roundMag_zero]
    rfl

theorem fdiv_le_left {a b c : F64} (ha : IsFinite a) (hb : IsFinite b) (hc : IsFinite c) (h0 : 0 ≤ forder a)
    (h : forder a ≤ forder b) (hpos : 0 < forder c) : forder (fdiv a c) ≤ forder (fdiv b c) := by
  rw [forder_fdiv ha hc h0 hpos, forder_fdiv hb hc (by omega) hpos]
  have hu := signedUnits_le h
  rw [units_of_nonneg h0, units_of_nonneg (by omega)] at hu
  have hcu : 0 < units c := by
    have : fmag c ≠ 0 := by intro hm; simp [forder, hm] at hpos
    exact Nat.pos_of_ne_zero (mt (units_eq_zero_iff c).1 this)
  exact_mod_cast roundMag_le hcu (Nat.mul_le_mul_right _ (by exact_mod_cast hu))

/-- A quotient whose order is known is not NaN. -/
theorem not_isNan_fdiv {a b : F64} (ha : IsFinite a) (hb : IsFinite b) (h : units b ≠ 0) : isNan (fdiv a b) = false := by
  rw [fdiv_finite ha hb h, isNan, fmag_fpack _ _ (roundMag_lt _ _)]
  have := roundMag_le_inf (units a * unitScale) (units b)
  simp only [decide_eq_false_iff_not]
  omega

/-! ### Comparisons -/

theorem fgt_iff (a b : F64) : fgt a b = true ↔ isNan a = false ∧ isNan b = false ∧ forder b < forder a := by
  simp [fgt, and_assoc]

theorem fle_iff (a b : F64) : fle a b = true ↔ isNan a = false ∧ isNan b = false ∧ forder a ≤ forder b := by
  simp [fle, and_assoc]

theorem fgt_nan_left {a b : F64} (h : isNan a = true) : fgt a b = false := by simp [fgt, h]

theorem forder_fzero : forder fzero = 0 := by decide

theorem forder_fone : forder fone = 0x3FF0000000000000 := by decide

/-- A value below infinity that is not negative is finite. -/
theorem finite_of_forder {q : F64} (h0 : 0 ≤ forder q) (h1 : forder q ≤ 0x3FF0000000000000) : IsFinite q := by
  have hinf : infMag = 0x7FF0000000000000 := by decide
  unfold IsFinite
  simp only [forder] at h0 h1
  split at h0
  · omega
  · next hneg => rw [if_neg hneg] at h1; omega

/-- A value in [0, 1] is finite, and its order lies between those of the ends. -/
theorem inUnit_iff (q : F64) : inUnit q = true ↔ IsFinite q ∧ 0 ≤ forder q ∧ forder q ≤ 0x3FF0000000000000 := by
  rw [inUnit, Bool.and_eq_true, fle_iff, fle_iff, forder_fzero, forder_fone]
  constructor
  · rintro ⟨⟨_, hn, h0⟩, _, _, h1⟩
    exact ⟨finite_of_forder h0 h1, h0, h1⟩
  · rintro ⟨hf, h0, h1⟩
    exact ⟨⟨by decide, hf.not_nan, h0⟩, hf.not_nan, by decide, h1⟩

/-- The difference of two values in [0, 1] is finite. -/
theorem fsub_inUnit_finite {a b : F64} (ha : inUnit a = true) (hb : inUnit b = true) : IsFinite (fsub a b) := by
  obtain ⟨haf, ha0, ha1⟩ := (inUnit_iff a).1 ha
  obtain ⟨hbf, hb0, hb1⟩ := (inUnit_iff b).1 hb
  have hone : roundMag (unitsOf 0x3FF0000000000000) 1 < infMag := by decide +kernel
  have hbound : ∀ {q : F64}, 0 ≤ forder q → forder q ≤ 0x3FF0000000000000 → units q ≤ unitsOf 0x3FF0000000000000 := by
    intro q h0 h1
    rw [units_eq]
    apply unitsOf_le
    simp only [forder] at h0 h1
    split at h0
    · omega
    · next hneg => rw [if_neg hneg] at h1; omega
  have hd : (signedUnits a - signedUnits b).natAbs ≤ unitsOf 0x3FF0000000000000 := by
    rw [units_of_nonneg ha0, units_of_nonneg hb0]
    have := hbound ha0 ha1
    have := hbound hb0 hb1
    omega
  have hr := roundMag_le (d := 1) (by omega) hd
  rw [fsub_finite haf hbf]
  unfold IsFinite
  split
  · rw [fmag_fpack _ _ (by decide)]; decide
  · rw [fmag_fpack _ _ (roundMag_lt _ _)]; omega

end Sys2Proof.Machine
end

