-- ==== Sys2Proof/Laws/Datapath.lean ====
section
/-! SUPPORT. The laws of the datapath's stages. -/

namespace Sys2Proof.Machine

open Sys2Proof

/-- A power function with the four properties of R7 is itself what `pow` gives: `pow` loses none of them (log
entry 4). -/
theorem pow_eq_powRaw (P : Params) (q g : F64) (hzero : fgt g fzero = true → P.powRaw fzero g = fzero)
    (hone : P.powRaw fone g = fone) (hid : P.powRaw q fone = q)
    (hrange : inUnit q = true → fgt g fzero = true → inUnit (P.powRaw q g) = true) :
    pow P q g = P.powRaw q g := by
  unfold pow
  split
  · next h => rw [h, hone]
  · split
    · next h => rw [h, hid]
    · split
      · next h =>
        simp only [Bool.and_eq_true, decide_eq_true_eq] at h
        rw [h.1, hzero h.2]
      · simp only
        split
        · next h =>
          simp only [Bool.and_eq_true, Bool.not_eq_true', and_assoc] at h
          rw [hrange h.1 h.2.1] at h
          simp at h
        · rfl

theorem unitValue_zero : unitValue 0 = fzero := by decide +kernel

theorem unitValue_white : unitValue 255 = fone := by decide +kernel

theorem finite_f64 {n : Nat} (h : n ≤ 255) : IsFinite (f64 n) := by
  have h255 : roundMag (255 * unitScale) 1 < infMag := by decide +kernel
  have := roundMag_le (d := 1) (by omega) (Nat.mul_le_mul_right unitScale h)
  unfold IsFinite f64
  rw [fmag_fpack _ _ (roundMag_lt _ _)]
  omega

theorem forder_f64 (n : Nat) : forder (f64 n) = roundMag (n * unitScale) 1 :=
  forder_fpack _ _ (roundMag_lt _ _)

/-- The operand of the power law does not decrease in the sample. -/
theorem forder_unitValue_le {a b : Sample8} (h : a ≤ b) : forder (unitValue a) ≤ forder (unitValue b) := by
  have ha := a.isLt
  have hb := b.isLt
  have hab : a.toNat ≤ b.toNat := by simpa [BitVec.le_def] using h
  have h255 : 0 < forder (f64 255) := by decide +kernel
  refine fdiv_le_left (finite_f64 (by omega)) (finite_f64 (by omega)) (finite_f64 (by omega)) ?_ ?_ h255
  · rw [forder_f64]; omega
  · rw [forder_f64, forder_f64]
    exact_mod_cast roundMag_le (by omega) (Nat.mul_le_mul_right unitScale hab)

theorem inUnit_unitValue (v : Sample8) : inUnit (unitValue v) = true := by
  have h0 : forder (unitValue 0) = 0 := by rw [unitValue_zero]; exact forder_fzero
  have h1 : forder (unitValue 255) = 0x3FF0000000000000 := by rw [unitValue_white]; exact forder_fone
  have hlo := forder_unitValue_le (a := 0) (b := v) (BitVec.le_def.2 (Nat.zero_le _))
  have hhi := forder_unitValue_le (a := v) (b := 255) (BitVec.le_def.2 (Nat.le_of_lt_succ v.isLt))
  rw [h0] at hlo
  rw [h1] at hhi
  exact (inUnit_iff _).2 ⟨finite_of_forder hlo hhi, hlo, hhi⟩

/-- An entry of a filled table is the power law (R33). -/
@[simp] theorem lutTable_get (P : Params) (G : F64) (v : Sample8) (h : v.toNat < 256) :
    (lutTable P G)[v.toNat] = linPower P G v := by
  simp [lutTable]

theorem lutFill_power {P : Params} (h : P.linearizer = .power) (G : F64) : lutFill P G = none := by
  simp [lutFill, h]

theorem lutFill_lut {P : Params} (h : P.linearizer = .lut) (G : F64) : lutFill P G = some (lutTable P G) := by
  simp [lutFill, h]

/-- The linearizer on a coherent LUT is the power law, in both variants (R110). -/
theorem lin_lutFill (P : Params) (G : F64) (v : Sample8) : lin P (lutFill P G) G v = linPower P G v := by
  unfold lutFill
  cases P.linearizer <;> simp [lin]

end Sys2Proof.Machine
end

