-- ==== Sys2Proof/Laws/Encoding.lean ====
section
/-! SUPPORT. The fields of a transaction word, taken apart and put together (30_encoding.md R80). -/

namespace Sys2Proof

@[simp] theorem Transaction.we_mk (we : Bool) (o : BitVec 8) (d : Word) :
    Transaction.we (Transaction.mk we o d) = we := by
  simp only [Transaction.we, Transaction.mk, BitVec.getLsbD_append]
  cases we <;> rfl

@[simp] theorem Transaction.offset_mk (we : Bool) (o : BitVec 8) (d : Word) :
    Transaction.offset (Transaction.mk we o d) = o := by
  apply BitVec.eq_of_getLsbD_eq
  intro i hi
  simp only [Transaction.offset, Transaction.mk, BitVec.getLsbD_extractLsb', BitVec.getLsbD_append]
  have : ¬ 64 + i < 64 := by omega
  simp [this, hi]

@[simp] theorem Transaction.data_mk (we : Bool) (o : BitVec 8) (d : Word) :
    Transaction.data (Transaction.mk we o d) = d := by
  apply BitVec.eq_of_getLsbD_eq
  intro i hi
  simp only [Transaction.data, Transaction.mk, BitVec.getLsbD_extractLsb', BitVec.getLsbD_append]
  simp [hi]

theorem Transaction.mk_fields (tw : Transaction) :
    Transaction.mk (Transaction.we tw) (Transaction.offset tw) (Transaction.data tw) = tw := by
  apply BitVec.eq_of_getLsbD_eq
  intro i hi
  simp only [Transaction.mk, Transaction.we, Transaction.offset, Transaction.data, BitVec.getLsbD_append,
    BitVec.getLsbD_extractLsb']
  by_cases h1 : i < 64
  · simp [h1]
  · by_cases h2 : i - 64 < 8
    · have : 64 + (i - 64) = i := by omega
      simp [h1, h2, this]
    · have : i = 72 := by omega
      subst this
      simp

theorem decodeCommand_wf (word : Word) : (decodeCommand word).wf = true := by
  unfold decodeCommand
  split
  · rfl
  · split
    · rfl
    · simp [Instr.wf, *]

end Sys2Proof
end

