-- ==== Sys2Proof/Laws/State.lean ====
section
/-! SUPPORT. One lemma per field per update of the state: what each operation leaves in each field. -/

namespace Sys2Proof.Machine

open Sys2Proof

/-! ### respond -/

@[simp] theorem respond_done (v : Word) (s : State) :
    (respond v s).done = s.done := rfl
@[simp] theorem respond_err (v : Word) (s : State) :
    (respond v s).err = s.err := rfl
@[simp] theorem respond_rej (v : Word) (s : State) :
    (respond v s).rej = s.rej := rfl
@[simp] theorem respond_errCode (v : Word) (s : State) :
    (respond v s).errCode = s.errCode := rfl
@[simp] theorem respond_irqen (v : Word) (s : State) :
    (respond v s).irqen = s.irqen := rfl
@[simp] theorem respond_loss (v : Word) (s : State) :
    (respond v s).loss = s.loss := rfl
@[simp] theorem respond_gamma (v : Word) (s : State) :
    (respond v s).gamma = s.gamma := rfl
@[simp] theorem respond_pixIn (v : Word) (s : State) :
    (respond v s).pixIn = s.pixIn := rfl
@[simp] theorem respond_pixXy (v : Word) (s : State) :
    (respond v s).pixXy = s.pixXy := rfl
@[simp] theorem respond_pixOut (v : Word) (s : State) :
    (respond v s).pixOut = s.pixOut := rfl
@[simp] theorem respond_frameMin (v : Word) (s : State) :
    (respond v s).frameMin = s.frameMin := rfl
@[simp] theorem respond_frameMax (v : Word) (s : State) :
    (respond v s).frameMax = s.frameMax := rfl
@[simp] theorem respond_lut (v : Word) (s : State) :
    (respond v s).lut = s.lut := rfl
@[simp] theorem respond_pending (v : Word) (s : State) :
    (respond v s).pending = s.pending := rfl
@[simp] theorem respond_srcPresent (v : Word) (s : State) :
    (respond v s).srcPresent = s.srcPresent := rfl
@[simp] theorem respond_srcHp (v : Word) (s : State) :
    (respond v s).srcHp = s.srcHp := rfl
@[simp] theorem respond_src (v : Word) (s : State) :
    (respond v s).src = s.src := rfl
@[simp] theorem respond_dst (v : Word) (s : State) :
    (respond v s).dst = s.dst := rfl
@[simp] theorem respond_resp (v : Word) (s : State) :
    (respond v s).resp = some v := rfl
@[simp] theorem respond_schedule (v : Word) (s : State) :
    (respond v s).schedule = s.schedule := rfl
@[simp] theorem respond_overlap (v : Word) (s : State) :
    (respond v s).overlap = s.overlap := rfl
@[simp] theorem respond_preFrame (v : Word) (s : State) :
    (respond v s).preFrame = s.preFrame := rfl
@[simp] theorem respond_kept (v : Word) (s : State) :
    (respond v s).kept = s.kept := rfl
@[simp] theorem respond_breach (v : Word) (s : State) :
    (respond v s).breach = s.breach := rfl
@[simp] theorem respond_draws (v : Word) (s : State) :
    (respond v s).draws = s.draws := rfl
@[simp] theorem respond_hostPixel (v : Word) (s : State) :
    (respond v s).hostPixel = s.hostPixel := rfl

/-! ### raiseError -/

@[simp] theorem raiseError_done (code : BitVec 4) (s : State) :
    (raiseError code s).done = s.done := rfl
@[simp] theorem raiseError_err (code : BitVec 4) (s : State) :
    (raiseError code s).err = true := rfl
@[simp] theorem raiseError_rej (code : BitVec 4) (s : State) :
    (raiseError code s).rej = s.rej := rfl
@[simp] theorem raiseError_errCode (code : BitVec 4) (s : State) :
    (raiseError code s).errCode = code := rfl
@[simp] theorem raiseError_irqen (code : BitVec 4) (s : State) :
    (raiseError code s).irqen = s.irqen := rfl
@[simp] theorem raiseError_loss (code : BitVec 4) (s : State) :
    (raiseError code s).loss = s.loss := rfl
@[simp] theorem raiseError_gamma (code : BitVec 4) (s : State) :
    (raiseError code s).gamma = s.gamma := rfl
@[simp] theorem raiseError_pixIn (code : BitVec 4) (s : State) :
    (raiseError code s).pixIn = s.pixIn := rfl
@[simp] theorem raiseError_pixXy (code : BitVec 4) (s : State) :
    (raiseError code s).pixXy = s.pixXy := rfl
@[simp] theorem raiseError_pixOut (code : BitVec 4) (s : State) :
    (raiseError code s).pixOut = s.pixOut := rfl
@[simp] theorem raiseError_frameMin (code : BitVec 4) (s : State) :
    (raiseError code s).frameMin = s.frameMin := rfl
@[simp] theorem raiseError_frameMax (code : BitVec 4) (s : State) :
    (raiseError code s).frameMax = s.frameMax := rfl
@[simp] theorem raiseError_lut (code : BitVec 4) (s : State) :
    (raiseError code s).lut = s.lut := rfl
@[simp] theorem raiseError_pending (code : BitVec 4) (s : State) :
    (raiseError code s).pending = s.pending := rfl
@[simp] theorem raiseError_srcPresent (code : BitVec 4) (s : State) :
    (raiseError code s).srcPresent = s.srcPresent := rfl
@[simp] theorem raiseError_srcHp (code : BitVec 4) (s : State) :
    (raiseError code s).srcHp = s.srcHp := rfl
@[simp] theorem raiseError_src (code : BitVec 4) (s : State) :
    (raiseError code s).src = s.src := rfl
@[simp] theorem raiseError_dst (code : BitVec 4) (s : State) :
    (raiseError code s).dst = s.dst := rfl
@[simp] theorem raiseError_resp (code : BitVec 4) (s : State) :
    (raiseError code s).resp = s.resp := rfl
@[simp] theorem raiseError_schedule (code : BitVec 4) (s : State) :
    (raiseError code s).schedule = s.schedule := rfl
@[simp] theorem raiseError_overlap (code : BitVec 4) (s : State) :
    (raiseError code s).overlap = s.overlap := rfl
@[simp] theorem raiseError_preFrame (code : BitVec 4) (s : State) :
    (raiseError code s).preFrame = s.preFrame := rfl
@[simp] theorem raiseError_kept (code : BitVec 4) (s : State) :
    (raiseError code s).kept = s.kept := rfl
@[simp] theorem raiseError_breach (code : BitVec 4) (s : State) :
    (raiseError code s).breach = s.breach := rfl
@[simp] theorem raiseError_draws (code : BitVec 4) (s : State) :
    (raiseError code s).draws = s.draws := rfl
@[simp] theorem raiseError_hostPixel (code : BitVec 4) (s : State) :
    (raiseError code s).hostPixel = s.hostPixel := rfl

/-! ### reject -/

@[simp] theorem reject_done (s : State) :
    (reject s).done = s.done := rfl
@[simp] theorem reject_err (s : State) :
    (reject s).err = s.err := rfl
@[simp] theorem reject_rej (s : State) :
    (reject s).rej = true := rfl
@[simp] theorem reject_errCode (s : State) :
    (reject s).errCode = s.errCode := rfl
@[simp] theorem reject_irqen (s : State) :
    (reject s).irqen = s.irqen := rfl
@[simp] theorem reject_loss (s : State) :
    (reject s).loss = s.loss := rfl
@[simp] theorem reject_gamma (s : State) :
    (reject s).gamma = s.gamma := rfl
@[simp] theorem reject_pixIn (s : State) :
    (reject s).pixIn = s.pixIn := rfl
@[simp] theorem reject_pixXy (s : State) :
    (reject s).pixXy = s.pixXy := rfl
@[simp] theorem reject_pixOut (s : State) :
    (reject s).pixOut = s.pixOut := rfl
@[simp] theorem reject_frameMin (s : State) :
    (reject s).frameMin = s.frameMin := rfl
@[simp] theorem reject_frameMax (s : State) :
    (reject s).frameMax = s.frameMax := rfl
@[simp] theorem reject_lut (s : State) :
    (reject s).lut = s.lut := rfl
@[simp] theorem reject_pending (s : State) :
    (reject s).pending = s.pending := rfl
@[simp] theorem reject_srcPresent (s : State) :
    (reject s).srcPresent = s.srcPresent := rfl
@[simp] theorem reject_srcHp (s : State) :
    (reject s).srcHp = s.srcHp := rfl
@[simp] theorem reject_src (s : State) :
    (reject s).src = s.src := rfl
@[simp] theorem reject_dst (s : State) :
    (reject s).dst = s.dst := rfl
@[simp] theorem reject_resp (s : State) :
    (reject s).resp = s.resp := rfl
@[simp] theorem reject_schedule (s : State) :
    (reject s).schedule = s.schedule := rfl
@[simp] theorem reject_overlap (s : State) :
    (reject s).overlap = s.overlap := rfl
@[simp] theorem reject_preFrame (s : State) :
    (reject s).preFrame = s.preFrame := rfl
@[simp] theorem reject_kept (s : State) :
    (reject s).kept = s.kept := rfl
@[simp] theorem reject_breach (s : State) :
    (reject s).breach = s.breach := rfl
@[simp] theorem reject_draws (s : State) :
    (reject s).draws = s.draws := rfl
@[simp] theorem reject_hostPixel (s : State) :
    (reject s).hostPixel = s.hostPixel := rfl

/-! ### clearStatus -/

@[simp] theorem clearStatus_done (data : Word) (s : State) :
    (clearStatus data s).done = (s.done && !clearsDone data) := rfl
@[simp] theorem clearStatus_err (data : Word) (s : State) :
    (clearStatus data s).err = (s.err && !clearsErr data) := rfl
@[simp] theorem clearStatus_rej (data : Word) (s : State) :
    (clearStatus data s).rej = (s.rej && !clearsRej data) := rfl
@[simp] theorem clearStatus_errCode (data : Word) (s : State) :
    (clearStatus data s).errCode = if clearsErr data then 0 else s.errCode := rfl
@[simp] theorem clearStatus_irqen (data : Word) (s : State) :
    (clearStatus data s).irqen = s.irqen := rfl
@[simp] theorem clearStatus_loss (data : Word) (s : State) :
    (clearStatus data s).loss = s.loss := rfl
@[simp] theorem clearStatus_gamma (data : Word) (s : State) :
    (clearStatus data s).gamma = s.gamma := rfl
@[simp] theorem clearStatus_pixIn (data : Word) (s : State) :
    (clearStatus data s).pixIn = s.pixIn := rfl
@[simp] theorem clearStatus_pixXy (data : Word) (s : State) :
    (clearStatus data s).pixXy = s.pixXy := rfl
@[simp] theorem clearStatus_pixOut (data : Word) (s : State) :
    (clearStatus data s).pixOut = s.pixOut := rfl
@[simp] theorem clearStatus_frameMin (data : Word) (s : State) :
    (clearStatus data s).frameMin = s.frameMin := rfl
@[simp] theorem clearStatus_frameMax (data : Word) (s : State) :
    (clearStatus data s).frameMax = s.frameMax := rfl
@[simp] theorem clearStatus_lut (data : Word) (s : State) :
    (clearStatus data s).lut = s.lut := rfl
@[simp] theorem clearStatus_pending (data : Word) (s : State) :
    (clearStatus data s).pending = s.pending := rfl
@[simp] theorem clearStatus_srcPresent (data : Word) (s : State) :
    (clearStatus data s).srcPresent = s.srcPresent := rfl
@[simp] theorem clearStatus_srcHp (data : Word) (s : State) :
    (clearStatus data s).srcHp = s.srcHp := rfl
@[simp] theorem clearStatus_src (data : Word) (s : State) :
    (clearStatus data s).src = s.src := rfl
@[simp] theorem clearStatus_dst (data : Word) (s : State) :
    (clearStatus data s).dst = s.dst := rfl
@[simp] theorem clearStatus_resp (data : Word) (s : State) :
    (clearStatus data s).resp = s.resp := rfl
@[simp] theorem clearStatus_schedule (data : Word) (s : State) :
    (clearStatus data s).schedule = s.schedule := rfl
@[simp] theorem clearStatus_overlap (data : Word) (s : State) :
    (clearStatus data s).overlap = s.overlap := rfl
@[simp] theorem clearStatus_preFrame (data : Word) (s : State) :
    (clearStatus data s).preFrame = s.preFrame := rfl
@[simp] theorem clearStatus_kept (data : Word) (s : State) :
    (clearStatus data s).kept = s.kept := rfl
@[simp] theorem clearStatus_breach (data : Word) (s : State) :
    (clearStatus data s).breach = s.breach := rfl
@[simp] theorem clearStatus_draws (data : Word) (s : State) :
    (clearStatus data s).draws = s.draws := rfl
@[simp] theorem clearStatus_hostPixel (data : Word) (s : State) :
    (clearStatus data s).hostPixel = s.hostPixel := rfl

/-! ### storeGamma -/

@[simp] theorem storeGamma_done (P : Params) (data : Word) (s : State) :
    (storeGamma P data s).done = s.done := rfl
@[simp] theorem storeGamma_err (P : Params) (data : Word) (s : State) :
    (storeGamma P data s).err = s.err := rfl
@[simp] theorem storeGamma_rej (P : Params) (data : Word) (s : State) :
    (storeGamma P data s).rej = s.rej := rfl
@[simp] theorem storeGamma_errCode (P : Params) (data : Word) (s : State) :
    (storeGamma P data s).errCode = s.errCode := rfl
@[simp] theorem storeGamma_irqen (P : Params) (data : Word) (s : State) :
    (storeGamma P data s).irqen = s.irqen := rfl
@[simp] theorem storeGamma_loss (P : Params) (data : Word) (s : State) :
    (storeGamma P data s).loss = s.loss := rfl
@[simp] theorem storeGamma_gamma (P : Params) (data : Word) (s : State) :
    (storeGamma P data s).gamma = gammaOf data := rfl
@[simp] theorem storeGamma_pixIn (P : Params) (data : Word) (s : State) :
    (storeGamma P data s).pixIn = s.pixIn := rfl
@[simp] theorem storeGamma_pixXy (P : Params) (data : Word) (s : State) :
    (storeGamma P data s).pixXy = s.pixXy := rfl
@[simp] theorem storeGamma_pixOut (P : Params) (data : Word) (s : State) :
    (storeGamma P data s).pixOut = s.pixOut := rfl
@[simp] theorem storeGamma_frameMin (P : Params) (data : Word) (s : State) :
    (storeGamma P data s).frameMin = s.frameMin := rfl
@[simp] theorem storeGamma_frameMax (P : Params) (data : Word) (s : State) :
    (storeGamma P data s).frameMax = s.frameMax := rfl
@[simp] theorem storeGamma_lut (P : Params) (data : Word) (s : State) :
    (storeGamma P data s).lut = lutFill P (gammaOf data) := rfl
@[simp] theorem storeGamma_pending (P : Params) (data : Word) (s : State) :
    (storeGamma P data s).pending = s.pending := rfl
@[simp] theorem storeGamma_srcPresent (P : Params) (data : Word) (s : State) :
    (storeGamma P data s).srcPresent = s.srcPresent := rfl
@[simp] theorem storeGamma_srcHp (P : Params) (data : Word) (s : State) :
    (storeGamma P data s).srcHp = s.srcHp := rfl
@[simp] theorem storeGamma_src (P : Params) (data : Word) (s : State) :
    (storeGamma P data s).src = s.src := rfl
@[simp] theorem storeGamma_dst (P : Params) (data : Word) (s : State) :
    (storeGamma P data s).dst = s.dst := rfl
@[simp] theorem storeGamma_resp (P : Params) (data : Word) (s : State) :
    (storeGamma P data s).resp = s.resp := rfl
@[simp] theorem storeGamma_schedule (P : Params) (data : Word) (s : State) :
    (storeGamma P data s).schedule = s.schedule := rfl
@[simp] theorem storeGamma_overlap (P : Params) (data : Word) (s : State) :
    (storeGamma P data s).overlap = s.overlap := rfl
@[simp] theorem storeGamma_preFrame (P : Params) (data : Word) (s : State) :
    (storeGamma P data s).preFrame = s.preFrame := rfl
@[simp] theorem storeGamma_kept (P : Params) (data : Word) (s : State) :
    (storeGamma P data s).kept = s.kept := rfl
@[simp] theorem storeGamma_breach (P : Params) (data : Word) (s : State) :
    (storeGamma P data s).breach = s.breach := rfl
@[simp] theorem storeGamma_draws (P : Params) (data : Word) (s : State) :
    (storeGamma P data s).draws = s.draws := rfl
@[simp] theorem storeGamma_hostPixel (P : Params) (data : Word) (s : State) :
    (storeGamma P data s).hostPixel = s.hostPixel := rfl

/-! ### dstStore -/

@[simp] theorem dstStore_done (c : Coord) (v : DstPixel) (s : State) :
    (dstStore c v s).done = s.done := rfl
@[simp] theorem dstStore_err (c : Coord) (v : DstPixel) (s : State) :
    (dstStore c v s).err = s.err := rfl
@[simp] theorem dstStore_rej (c : Coord) (v : DstPixel) (s : State) :
    (dstStore c v s).rej = s.rej := rfl
@[simp] theorem dstStore_errCode (c : Coord) (v : DstPixel) (s : State) :
    (dstStore c v s).errCode = s.errCode := rfl
@[simp] theorem dstStore_irqen (c : Coord) (v : DstPixel) (s : State) :
    (dstStore c v s).irqen = s.irqen := rfl
@[simp] theorem dstStore_loss (c : Coord) (v : DstPixel) (s : State) :
    (dstStore c v s).loss = s.loss := rfl
@[simp] theorem dstStore_gamma (c : Coord) (v : DstPixel) (s : State) :
    (dstStore c v s).gamma = s.gamma := rfl
@[simp] theorem dstStore_pixIn (c : Coord) (v : DstPixel) (s : State) :
    (dstStore c v s).pixIn = s.pixIn := rfl
@[simp] theorem dstStore_pixXy (c : Coord) (v : DstPixel) (s : State) :
    (dstStore c v s).pixXy = s.pixXy := rfl
@[simp] theorem dstStore_pixOut (c : Coord) (v : DstPixel) (s : State) :
    (dstStore c v s).pixOut = s.pixOut := rfl
@[simp] theorem dstStore_frameMin (c : Coord) (v : DstPixel) (s : State) :
    (dstStore c v s).frameMin = s.frameMin := rfl
@[simp] theorem dstStore_frameMax (c : Coord) (v : DstPixel) (s : State) :
    (dstStore c v s).frameMax = s.frameMax := rfl
@[simp] theorem dstStore_lut (c : Coord) (v : DstPixel) (s : State) :
    (dstStore c v s).lut = s.lut := rfl
@[simp] theorem dstStore_pending (c : Coord) (v : DstPixel) (s : State) :
    (dstStore c v s).pending = s.pending := rfl
@[simp] theorem dstStore_srcPresent (c : Coord) (v : DstPixel) (s : State) :
    (dstStore c v s).srcPresent = s.srcPresent := rfl
@[simp] theorem dstStore_srcHp (c : Coord) (v : DstPixel) (s : State) :
    (dstStore c v s).srcHp = s.srcHp := rfl
@[simp] theorem dstStore_src (c : Coord) (v : DstPixel) (s : State) :
    (dstStore c v s).src = s.src := rfl
@[simp] theorem dstStore_dst (c : Coord) (v : DstPixel) (s : State) :
    (dstStore c v s).dst = memWrite s.dst (coordKey c) v := rfl
@[simp] theorem dstStore_resp (c : Coord) (v : DstPixel) (s : State) :
    (dstStore c v s).resp = s.resp := rfl
@[simp] theorem dstStore_schedule (c : Coord) (v : DstPixel) (s : State) :
    (dstStore c v s).schedule = s.schedule := rfl
@[simp] theorem dstStore_overlap (c : Coord) (v : DstPixel) (s : State) :
    (dstStore c v s).overlap = s.overlap := rfl
@[simp] theorem dstStore_preFrame (c : Coord) (v : DstPixel) (s : State) :
    (dstStore c v s).preFrame = s.preFrame := rfl
@[simp] theorem dstStore_kept (c : Coord) (v : DstPixel) (s : State) :
    (dstStore c v s).kept = s.kept := rfl
@[simp] theorem dstStore_breach (c : Coord) (v : DstPixel) (s : State) :
    (dstStore c v s).breach = s.breach := rfl
@[simp] theorem dstStore_draws (c : Coord) (v : DstPixel) (s : State) :
    (dstStore c v s).draws = s.draws := rfl
@[simp] theorem dstStore_hostPixel (c : Coord) (v : DstPixel) (s : State) :
    (dstStore c v s).hostPixel = s.hostPixel := rfl

/-! ### srcStore -/

@[simp] theorem srcStore_done (c : Coord) (p : SrcPixel) (s : State) :
    (srcStore c p s).done = s.done := rfl
@[simp] theorem srcStore_err (c : Coord) (p : SrcPixel) (s : State) :
    (srcStore c p s).err = s.err := rfl
@[simp] theorem srcStore_rej (c : Coord) (p : SrcPixel) (s : State) :
    (srcStore c p s).rej = s.rej := rfl
@[simp] theorem srcStore_errCode (c : Coord) (p : SrcPixel) (s : State) :
    (srcStore c p s).errCode = s.errCode := rfl
@[simp] theorem srcStore_irqen (c : Coord) (p : SrcPixel) (s : State) :
    (srcStore c p s).irqen = s.irqen := rfl
@[simp] theorem srcStore_loss (c : Coord) (p : SrcPixel) (s : State) :
    (srcStore c p s).loss = s.loss := rfl
@[simp] theorem srcStore_gamma (c : Coord) (p : SrcPixel) (s : State) :
    (srcStore c p s).gamma = s.gamma := rfl
@[simp] theorem srcStore_pixIn (c : Coord) (p : SrcPixel) (s : State) :
    (srcStore c p s).pixIn = s.pixIn := rfl
@[simp] theorem srcStore_pixXy (c : Coord) (p : SrcPixel) (s : State) :
    (srcStore c p s).pixXy = s.pixXy := rfl
@[simp] theorem srcStore_pixOut (c : Coord) (p : SrcPixel) (s : State) :
    (srcStore c p s).pixOut = s.pixOut := rfl
@[simp] theorem srcStore_frameMin (c : Coord) (p : SrcPixel) (s : State) :
    (srcStore c p s).frameMin = s.frameMin := rfl
@[simp] theorem srcStore_frameMax (c : Coord) (p : SrcPixel) (s : State) :
    (srcStore c p s).frameMax = s.frameMax := rfl
@[simp] theorem srcStore_lut (c : Coord) (p : SrcPixel) (s : State) :
    (srcStore c p s).lut = s.lut := rfl
@[simp] theorem srcStore_pending (c : Coord) (p : SrcPixel) (s : State) :
    (srcStore c p s).pending = s.pending := rfl
@[simp] theorem srcStore_srcPresent (c : Coord) (p : SrcPixel) (s : State) :
    (srcStore c p s).srcPresent = s.srcPresent := rfl
@[simp] theorem srcStore_srcHp (c : Coord) (p : SrcPixel) (s : State) :
    (srcStore c p s).srcHp = s.srcHp := rfl
@[simp] theorem srcStore_src (c : Coord) (p : SrcPixel) (s : State) :
    (srcStore c p s).src = memWrite s.src (coordKey c) p := rfl
@[simp] theorem srcStore_dst (c : Coord) (p : SrcPixel) (s : State) :
    (srcStore c p s).dst = s.dst := rfl
@[simp] theorem srcStore_resp (c : Coord) (p : SrcPixel) (s : State) :
    (srcStore c p s).resp = s.resp := rfl
@[simp] theorem srcStore_schedule (c : Coord) (p : SrcPixel) (s : State) :
    (srcStore c p s).schedule = s.schedule := rfl
@[simp] theorem srcStore_overlap (c : Coord) (p : SrcPixel) (s : State) :
    (srcStore c p s).overlap = s.overlap := rfl
@[simp] theorem srcStore_preFrame (c : Coord) (p : SrcPixel) (s : State) :
    (srcStore c p s).preFrame = s.preFrame := rfl
@[simp] theorem srcStore_kept (c : Coord) (p : SrcPixel) (s : State) :
    (srcStore c p s).kept = s.kept := rfl
@[simp] theorem srcStore_breach (c : Coord) (p : SrcPixel) (s : State) :
    (srcStore c p s).breach = s.breach := rfl
@[simp] theorem srcStore_draws (c : Coord) (p : SrcPixel) (s : State) :
    (srcStore c p s).draws = s.draws := rfl
@[simp] theorem srcStore_hostPixel (c : Coord) (p : SrcPixel) (s : State) :
    (srcStore c p s).hostPixel = s.hostPixel := rfl

/-! ### startFrame -/

@[simp] theorem startFrame_done (s : State) :
    (startFrame s).done = false := rfl
@[simp] theorem startFrame_err (s : State) :
    (startFrame s).err = s.err := rfl
@[simp] theorem startFrame_rej (s : State) :
    (startFrame s).rej = s.rej := rfl
@[simp] theorem startFrame_errCode (s : State) :
    (startFrame s).errCode = s.errCode := rfl
@[simp] theorem startFrame_irqen (s : State) :
    (startFrame s).irqen = s.irqen := rfl
@[simp] theorem startFrame_loss (s : State) :
    (startFrame s).loss = s.loss := rfl
@[simp] theorem startFrame_gamma (s : State) :
    (startFrame s).gamma = s.gamma := rfl
@[simp] theorem startFrame_pixIn (s : State) :
    (startFrame s).pixIn = s.pixIn := rfl
@[simp] theorem startFrame_pixXy (s : State) :
    (startFrame s).pixXy = s.pixXy := rfl
@[simp] theorem startFrame_pixOut (s : State) :
    (startFrame s).pixOut = s.pixOut := rfl
@[simp] theorem startFrame_frameMin (s : State) :
    (startFrame s).frameMin = s.frameMin := rfl
@[simp] theorem startFrame_frameMax (s : State) :
    (startFrame s).frameMax = s.frameMax := rfl
@[simp] theorem startFrame_lut (s : State) :
    (startFrame s).lut = s.lut := rfl
@[simp] theorem startFrame_pending (s : State) :
    (startFrame s).pending = rectangle s.frameMin s.frameMax := rfl
@[simp] theorem startFrame_srcPresent (s : State) :
    (startFrame s).srcPresent = s.srcPresent := rfl
@[simp] theorem startFrame_srcHp (s : State) :
    (startFrame s).srcHp = s.srcHp := rfl
@[simp] theorem startFrame_src (s : State) :
    (startFrame s).src = s.src := rfl
@[simp] theorem startFrame_dst (s : State) :
    (startFrame s).dst = s.dst := rfl
@[simp] theorem startFrame_resp (s : State) :
    (startFrame s).resp = s.resp := rfl
@[simp] theorem startFrame_schedule (s : State) :
    (startFrame s).schedule = s.schedule := rfl
@[simp] theorem startFrame_overlap (s : State) :
    (startFrame s).overlap = s.overlap := rfl
@[simp] theorem startFrame_preFrame (s : State) :
    (startFrame s).preFrame = s.dst := rfl
@[simp] theorem startFrame_kept (s : State) :
    (startFrame s).kept = [] := rfl
@[simp] theorem startFrame_breach (s : State) :
    (startFrame s).breach = none := rfl
@[simp] theorem startFrame_draws (s : State) :
    (startFrame s).draws = s.draws := rfl
@[simp] theorem startFrame_hostPixel (s : State) :
    (startFrame s).hostPixel = s.hostPixel := rfl

/-! ### finishFrame -/

@[simp] theorem finishFrame_done (s : State) :
    (finishFrame s).done = true := rfl
@[simp] theorem finishFrame_err (s : State) :
    (finishFrame s).err = s.err := rfl
@[simp] theorem finishFrame_rej (s : State) :
    (finishFrame s).rej = s.rej := rfl
@[simp] theorem finishFrame_errCode (s : State) :
    (finishFrame s).errCode = s.errCode := rfl
@[simp] theorem finishFrame_irqen (s : State) :
    (finishFrame s).irqen = s.irqen := rfl
@[simp] theorem finishFrame_loss (s : State) :
    (finishFrame s).loss = s.loss := rfl
@[simp] theorem finishFrame_gamma (s : State) :
    (finishFrame s).gamma = s.gamma := rfl
@[simp] theorem finishFrame_pixIn (s : State) :
    (finishFrame s).pixIn = s.pixIn := rfl
@[simp] theorem finishFrame_pixXy (s : State) :
    (finishFrame s).pixXy = s.pixXy := rfl
@[simp] theorem finishFrame_pixOut (s : State) :
    (finishFrame s).pixOut = s.pixOut := rfl
@[simp] theorem finishFrame_frameMin (s : State) :
    (finishFrame s).frameMin = s.frameMin := rfl
@[simp] theorem finishFrame_frameMax (s : State) :
    (finishFrame s).frameMax = s.frameMax := rfl
@[simp] theorem finishFrame_lut (s : State) :
    (finishFrame s).lut = s.lut := rfl
@[simp] theorem finishFrame_pending (s : State) :
    (finishFrame s).pending = s.pending := rfl
@[simp] theorem finishFrame_srcPresent (s : State) :
    (finishFrame s).srcPresent = s.srcPresent := rfl
@[simp] theorem finishFrame_srcHp (s : State) :
    (finishFrame s).srcHp = s.srcHp := rfl
@[simp] theorem finishFrame_src (s : State) :
    (finishFrame s).src = s.src := rfl
@[simp] theorem finishFrame_dst (s : State) :
    (finishFrame s).dst = s.dst := rfl
@[simp] theorem finishFrame_resp (s : State) :
    (finishFrame s).resp = s.resp := rfl
@[simp] theorem finishFrame_schedule (s : State) :
    (finishFrame s).schedule = s.schedule := rfl
@[simp] theorem finishFrame_overlap (s : State) :
    (finishFrame s).overlap = s.overlap := rfl
@[simp] theorem finishFrame_preFrame (s : State) :
    (finishFrame s).preFrame = [] := rfl
@[simp] theorem finishFrame_kept (s : State) :
    (finishFrame s).kept = [] := rfl
@[simp] theorem finishFrame_breach (s : State) :
    (finishFrame s).breach = none := rfl
@[simp] theorem finishFrame_draws (s : State) :
    (finishFrame s).draws = s.draws := rfl
@[simp] theorem finishFrame_hostPixel (s : State) :
    (finishFrame s).hostPixel = s.hostPixel := rfl

/-! ### pixelCommand -/

@[simp] theorem pixelCommand_done (P : Params) (s : State) :
    (pixelCommand P s).done = s.done := rfl
@[simp] theorem pixelCommand_err (P : Params) (s : State) :
    (pixelCommand P s).err = s.err := rfl
@[simp] theorem pixelCommand_rej (P : Params) (s : State) :
    (pixelCommand P s).rej = s.rej := rfl
@[simp] theorem pixelCommand_errCode (P : Params) (s : State) :
    (pixelCommand P s).errCode = s.errCode := rfl
@[simp] theorem pixelCommand_irqen (P : Params) (s : State) :
    (pixelCommand P s).irqen = s.irqen := rfl
@[simp] theorem pixelCommand_loss (P : Params) (s : State) :
    (pixelCommand P s).loss = s.loss := rfl
@[simp] theorem pixelCommand_gamma (P : Params) (s : State) :
    (pixelCommand P s).gamma = s.gamma := rfl
@[simp] theorem pixelCommand_pixIn (P : Params) (s : State) :
    (pixelCommand P s).pixIn = s.pixIn := rfl
@[simp] theorem pixelCommand_pixXy (P : Params) (s : State) :
    (pixelCommand P s).pixXy = s.pixXy := rfl
@[simp] theorem pixelCommand_pixOut (P : Params) (s : State) :
    (pixelCommand P s).pixOut = pixOf P s (coordOf s.pixXy) s.pixIn := rfl
@[simp] theorem pixelCommand_frameMin (P : Params) (s : State) :
    (pixelCommand P s).frameMin = s.frameMin := rfl
@[simp] theorem pixelCommand_frameMax (P : Params) (s : State) :
    (pixelCommand P s).frameMax = s.frameMax := rfl
@[simp] theorem pixelCommand_lut (P : Params) (s : State) :
    (pixelCommand P s).lut = s.lut := rfl
@[simp] theorem pixelCommand_pending (P : Params) (s : State) :
    (pixelCommand P s).pending = s.pending := rfl
@[simp] theorem pixelCommand_srcPresent (P : Params) (s : State) :
    (pixelCommand P s).srcPresent = s.srcPresent := rfl
@[simp] theorem pixelCommand_srcHp (P : Params) (s : State) :
    (pixelCommand P s).srcHp = s.srcHp := rfl
@[simp] theorem pixelCommand_src (P : Params) (s : State) :
    (pixelCommand P s).src = s.src := rfl
@[simp] theorem pixelCommand_dst (P : Params) (s : State) :
    (pixelCommand P s).dst = s.dst := rfl
@[simp] theorem pixelCommand_resp (P : Params) (s : State) :
    (pixelCommand P s).resp = s.resp := rfl
@[simp] theorem pixelCommand_schedule (P : Params) (s : State) :
    (pixelCommand P s).schedule = s.schedule := rfl
@[simp] theorem pixelCommand_overlap (P : Params) (s : State) :
    (pixelCommand P s).overlap = s.overlap := rfl
@[simp] theorem pixelCommand_preFrame (P : Params) (s : State) :
    (pixelCommand P s).preFrame = s.preFrame := rfl
@[simp] theorem pixelCommand_kept (P : Params) (s : State) :
    (pixelCommand P s).kept = s.kept := rfl
@[simp] theorem pixelCommand_breach (P : Params) (s : State) :
    (pixelCommand P s).breach = s.breach := rfl
@[simp] theorem pixelCommand_draws (P : Params) (s : State) :
    (pixelCommand P s).draws = s.draws := rfl
@[simp] theorem pixelCommand_hostPixel (P : Params) (s : State) :
    (pixelCommand P s).hostPixel = s.hostPixel := rfl

/-! ### hostRead -/

@[simp] theorem hostRead_done (P : Params) (c : Coord) (sees : RaceRead) (s : State) :
    (hostRead P c sees s).done = s.done := rfl
@[simp] theorem hostRead_err (P : Params) (c : Coord) (sees : RaceRead) (s : State) :
    (hostRead P c sees s).err = s.err := rfl
@[simp] theorem hostRead_rej (P : Params) (c : Coord) (sees : RaceRead) (s : State) :
    (hostRead P c sees s).rej = s.rej := rfl
@[simp] theorem hostRead_errCode (P : Params) (c : Coord) (sees : RaceRead) (s : State) :
    (hostRead P c sees s).errCode = s.errCode := rfl
@[simp] theorem hostRead_irqen (P : Params) (c : Coord) (sees : RaceRead) (s : State) :
    (hostRead P c sees s).irqen = s.irqen := rfl
@[simp] theorem hostRead_loss (P : Params) (c : Coord) (sees : RaceRead) (s : State) :
    (hostRead P c sees s).loss = s.loss := rfl
@[simp] theorem hostRead_gamma (P : Params) (c : Coord) (sees : RaceRead) (s : State) :
    (hostRead P c sees s).gamma = s.gamma := rfl
@[simp] theorem hostRead_pixIn (P : Params) (c : Coord) (sees : RaceRead) (s : State) :
    (hostRead P c sees s).pixIn = s.pixIn := rfl
@[simp] theorem hostRead_pixXy (P : Params) (c : Coord) (sees : RaceRead) (s : State) :
    (hostRead P c sees s).pixXy = s.pixXy := rfl
@[simp] theorem hostRead_pixOut (P : Params) (c : Coord) (sees : RaceRead) (s : State) :
    (hostRead P c sees s).pixOut = s.pixOut := rfl
@[simp] theorem hostRead_frameMin (P : Params) (c : Coord) (sees : RaceRead) (s : State) :
    (hostRead P c sees s).frameMin = s.frameMin := rfl
@[simp] theorem hostRead_frameMax (P : Params) (c : Coord) (sees : RaceRead) (s : State) :
    (hostRead P c sees s).frameMax = s.frameMax := rfl
@[simp] theorem hostRead_lut (P : Params) (c : Coord) (sees : RaceRead) (s : State) :
    (hostRead P c sees s).lut = s.lut := rfl
@[simp] theorem hostRead_pending (P : Params) (c : Coord) (sees : RaceRead) (s : State) :
    (hostRead P c sees s).pending = s.pending := rfl
@[simp] theorem hostRead_srcPresent (P : Params) (c : Coord) (sees : RaceRead) (s : State) :
    (hostRead P c sees s).srcPresent = s.srcPresent := rfl
@[simp] theorem hostRead_srcHp (P : Params) (c : Coord) (sees : RaceRead) (s : State) :
    (hostRead P c sees s).srcHp = s.srcHp := rfl
@[simp] theorem hostRead_src (P : Params) (c : Coord) (sees : RaceRead) (s : State) :
    (hostRead P c sees s).src = s.src := rfl
@[simp] theorem hostRead_dst (P : Params) (c : Coord) (sees : RaceRead) (s : State) :
    (hostRead P c sees s).dst = s.dst := rfl
@[simp] theorem hostRead_resp (P : Params) (c : Coord) (sees : RaceRead) (s : State) :
    (hostRead P c sees s).resp = s.resp := rfl
@[simp] theorem hostRead_schedule (P : Params) (c : Coord) (sees : RaceRead) (s : State) :
    (hostRead P c sees s).schedule = s.schedule := rfl
@[simp] theorem hostRead_overlap (P : Params) (c : Coord) (sees : RaceRead) (s : State) :
    (hostRead P c sees s).overlap = s.overlap := rfl
@[simp] theorem hostRead_preFrame (P : Params) (c : Coord) (sees : RaceRead) (s : State) :
    (hostRead P c sees s).preFrame = s.preFrame := rfl
@[simp] theorem hostRead_kept (P : Params) (c : Coord) (sees : RaceRead) (s : State) :
    (hostRead P c sees s).kept = s.kept := rfl
@[simp] theorem hostRead_breach (P : Params) (c : Coord) (sees : RaceRead) (s : State) :
    (hostRead P c sees s).breach = s.breach := rfl
@[simp] theorem hostRead_draws (P : Params) (c : Coord) (sees : RaceRead) (s : State) :
    (hostRead P c sees s).draws = s.draws := rfl
@[simp] theorem hostRead_hostPixel (P : Params) (c : Coord) (sees : RaceRead) (s : State) :
    (hostRead P c sees s).hostPixel = some (seenPixel P c sees s) := rfl

/-! ### breachDuty: the fields it never touches -/

@[simp] theorem breachDuty_done (s : State) :
    (breachDuty s).done = s.done := by unfold breachDuty; split <;> rfl
@[simp] theorem breachDuty_err (s : State) :
    (breachDuty s).err = s.err := by unfold breachDuty; split <;> rfl
@[simp] theorem breachDuty_rej (s : State) :
    (breachDuty s).rej = s.rej := by unfold breachDuty; split <;> rfl
@[simp] theorem breachDuty_errCode (s : State) :
    (breachDuty s).errCode = s.errCode := by unfold breachDuty; split <;> rfl
@[simp] theorem breachDuty_irqen (s : State) :
    (breachDuty s).irqen = s.irqen := by unfold breachDuty; split <;> rfl
@[simp] theorem breachDuty_loss (s : State) :
    (breachDuty s).loss = s.loss := by unfold breachDuty; split <;> rfl
@[simp] theorem breachDuty_gamma (s : State) :
    (breachDuty s).gamma = s.gamma := by unfold breachDuty; split <;> rfl
@[simp] theorem breachDuty_pixIn (s : State) :
    (breachDuty s).pixIn = s.pixIn := by unfold breachDuty; split <;> rfl
@[simp] theorem breachDuty_pixXy (s : State) :
    (breachDuty s).pixXy = s.pixXy := by unfold breachDuty; split <;> rfl
@[simp] theorem breachDuty_pixOut (s : State) :
    (breachDuty s).pixOut = s.pixOut := by unfold breachDuty; split <;> rfl
@[simp] theorem breachDuty_frameMin (s : State) :
    (breachDuty s).frameMin = s.frameMin := by unfold breachDuty; split <;> rfl
@[simp] theorem breachDuty_frameMax (s : State) :
    (breachDuty s).frameMax = s.frameMax := by unfold breachDuty; split <;> rfl
@[simp] theorem breachDuty_lut (s : State) :
    (breachDuty s).lut = s.lut := by unfold breachDuty; split <;> rfl
@[simp] theorem breachDuty_pending (s : State) :
    (breachDuty s).pending = s.pending := by unfold breachDuty; split <;> rfl
@[simp] theorem breachDuty_srcPresent (s : State) :
    (breachDuty s).srcPresent = s.srcPresent := by unfold breachDuty; split <;> rfl
@[simp] theorem breachDuty_srcHp (s : State) :
    (breachDuty s).srcHp = s.srcHp := by unfold breachDuty; split <;> rfl
@[simp] theorem breachDuty_src (s : State) :
    (breachDuty s).src = s.src := by unfold breachDuty; split <;> rfl
@[simp] theorem breachDuty_dst (s : State) :
    (breachDuty s).dst = s.dst := by unfold breachDuty; split <;> rfl
@[simp] theorem breachDuty_resp (s : State) :
    (breachDuty s).resp = s.resp := by unfold breachDuty; split <;> rfl
@[simp] theorem breachDuty_schedule (s : State) :
    (breachDuty s).schedule = s.schedule := by unfold breachDuty; split <;> rfl
@[simp] theorem breachDuty_overlap (s : State) :
    (breachDuty s).overlap = s.overlap := by unfold breachDuty; split <;> rfl
@[simp] theorem breachDuty_preFrame (s : State) :
    (breachDuty s).preFrame = s.preFrame := by unfold breachDuty; split <;> rfl
@[simp] theorem breachDuty_kept (s : State) :
    (breachDuty s).kept = s.kept := by unfold breachDuty; split <;> rfl
@[simp] theorem breachDuty_hostPixel (s : State) :
    (breachDuty s).hostPixel = s.hostPixel := by unfold breachDuty; split <;> rfl

/-! ### frameWrite: the fields it never touches -/

@[simp] theorem frameWrite_done (P : Params) (c : Coord) (s : State) :
    (frameWrite P c s).done = s.done := by unfold frameWrite; split <;> rfl
@[simp] theorem frameWrite_err (P : Params) (c : Coord) (s : State) :
    (frameWrite P c s).err = s.err := by unfold frameWrite; split <;> rfl
@[simp] theorem frameWrite_rej (P : Params) (c : Coord) (s : State) :
    (frameWrite P c s).rej = s.rej := by unfold frameWrite; split <;> rfl
@[simp] theorem frameWrite_errCode (P : Params) (c : Coord) (s : State) :
    (frameWrite P c s).errCode = s.errCode := by unfold frameWrite; split <;> rfl
@[simp] theorem frameWrite_irqen (P : Params) (c : Coord) (s : State) :
    (frameWrite P c s).irqen = s.irqen := by unfold frameWrite; split <;> rfl
@[simp] theorem frameWrite_loss (P : Params) (c : Coord) (s : State) :
    (frameWrite P c s).loss = s.loss := by unfold frameWrite; split <;> rfl
@[simp] theorem frameWrite_gamma (P : Params) (c : Coord) (s : State) :
    (frameWrite P c s).gamma = s.gamma := by unfold frameWrite; split <;> rfl
@[simp] theorem frameWrite_pixIn (P : Params) (c : Coord) (s : State) :
    (frameWrite P c s).pixIn = s.pixIn := by unfold frameWrite; split <;> rfl
@[simp] theorem frameWrite_pixXy (P : Params) (c : Coord) (s : State) :
    (frameWrite P c s).pixXy = s.pixXy := by unfold frameWrite; split <;> rfl
@[simp] theorem frameWrite_pixOut (P : Params) (c : Coord) (s : State) :
    (frameWrite P c s).pixOut = s.pixOut := by unfold frameWrite; split <;> rfl
@[simp] theorem frameWrite_frameMin (P : Params) (c : Coord) (s : State) :
    (frameWrite P c s).frameMin = s.frameMin := by unfold frameWrite; split <;> rfl
@[simp] theorem frameWrite_frameMax (P : Params) (c : Coord) (s : State) :
    (frameWrite P c s).frameMax = s.frameMax := by unfold frameWrite; split <;> rfl
@[simp] theorem frameWrite_lut (P : Params) (c : Coord) (s : State) :
    (frameWrite P c s).lut = s.lut := by unfold frameWrite; split <;> rfl
@[simp] theorem frameWrite_pending (P : Params) (c : Coord) (s : State) :
    (frameWrite P c s).pending = s.pending := by unfold frameWrite; split <;> rfl
@[simp] theorem frameWrite_srcPresent (P : Params) (c : Coord) (s : State) :
    (frameWrite P c s).srcPresent = s.srcPresent := by unfold frameWrite; split <;> rfl
@[simp] theorem frameWrite_srcHp (P : Params) (c : Coord) (s : State) :
    (frameWrite P c s).srcHp = s.srcHp := by unfold frameWrite; split <;> rfl
@[simp] theorem frameWrite_src (P : Params) (c : Coord) (s : State) :
    (frameWrite P c s).src = s.src := by unfold frameWrite; split <;> rfl
@[simp] theorem frameWrite_resp (P : Params) (c : Coord) (s : State) :
    (frameWrite P c s).resp = s.resp := by unfold frameWrite; split <;> rfl
@[simp] theorem frameWrite_schedule (P : Params) (c : Coord) (s : State) :
    (frameWrite P c s).schedule = s.schedule := by unfold frameWrite; split <;> rfl
@[simp] theorem frameWrite_overlap (P : Params) (c : Coord) (s : State) :
    (frameWrite P c s).overlap = s.overlap := by unfold frameWrite; split <;> rfl
@[simp] theorem frameWrite_preFrame (P : Params) (c : Coord) (s : State) :
    (frameWrite P c s).preFrame = s.preFrame := by unfold frameWrite; split <;> rfl
@[simp] theorem frameWrite_kept (P : Params) (c : Coord) (s : State) :
    (frameWrite P c s).kept = s.kept := by unfold frameWrite; split <;> rfl
@[simp] theorem frameWrite_breach (P : Params) (c : Coord) (s : State) :
    (frameWrite P c s).breach = s.breach := by unfold frameWrite; split <;> rfl
@[simp] theorem frameWrite_draws (P : Params) (c : Coord) (s : State) :
    (frameWrite P c s).draws = s.draws := by unfold frameWrite; split <;> rfl
@[simp] theorem frameWrite_hostPixel (P : Params) (c : Coord) (s : State) :
    (frameWrite P c s).hostPixel = s.hostPixel := by unfold frameWrite; split <;> rfl

/-! ### hostWrite: the fields it never touches -/

@[simp] theorem hostWrite_done (c : Coord) (v : DstPixel) (survives : Bool) (s : State) :
    (hostWrite c v survives s).done = s.done := by unfold hostWrite; split <;> [split <;> [rfl; (split <;> rfl)]; rfl]
@[simp] theorem hostWrite_err (c : Coord) (v : DstPixel) (survives : Bool) (s : State) :
    (hostWrite c v survives s).err = s.err := by unfold hostWrite; split <;> [split <;> [rfl; (split <;> rfl)]; rfl]
@[simp] theorem hostWrite_rej (c : Coord) (v : DstPixel) (survives : Bool) (s : State) :
    (hostWrite c v survives s).rej = s.rej := by unfold hostWrite; split <;> [split <;> [rfl; (split <;> rfl)]; rfl]
@[simp] theorem hostWrite_errCode (c : Coord) (v : DstPixel) (survives : Bool) (s : State) :
    (hostWrite c v survives s).errCode = s.errCode := by unfold hostWrite; split <;> [split <;> [rfl; (split <;> rfl)]; rfl]
@[simp] theorem hostWrite_irqen (c : Coord) (v : DstPixel) (survives : Bool) (s : State) :
    (hostWrite c v survives s).irqen = s.irqen := by unfold hostWrite; split <;> [split <;> [rfl; (split <;> rfl)]; rfl]
@[simp] theorem hostWrite_loss (c : Coord) (v : DstPixel) (survives : Bool) (s : State) :
    (hostWrite c v survives s).loss = s.loss := by unfold hostWrite; split <;> [split <;> [rfl; (split <;> rfl)]; rfl]
@[simp] theorem hostWrite_gamma (c : Coord) (v : DstPixel) (survives : Bool) (s : State) :
    (hostWrite c v survives s).gamma = s.gamma := by unfold hostWrite; split <;> [split <;> [rfl; (split <;> rfl)]; rfl]
@[simp] theorem hostWrite_pixIn (c : Coord) (v : DstPixel) (survives : Bool) (s : State) :
    (hostWrite c v survives s).pixIn = s.pixIn := by unfold hostWrite; split <;> [split <;> [rfl; (split <;> rfl)]; rfl]
@[simp] theorem hostWrite_pixXy (c : Coord) (v : DstPixel) (survives : Bool) (s : State) :
    (hostWrite c v survives s).pixXy = s.pixXy := by unfold hostWrite; split <;> [split <;> [rfl; (split <;> rfl)]; rfl]
@[simp] theorem hostWrite_pixOut (c : Coord) (v : DstPixel) (survives : Bool) (s : State) :
    (hostWrite c v survives s).pixOut = s.pixOut := by unfold hostWrite; split <;> [split <;> [rfl; (split <;> rfl)]; rfl]
@[simp] theorem hostWrite_frameMin (c : Coord) (v : DstPixel) (survives : Bool) (s : State) :
    (hostWrite c v survives s).frameMin = s.frameMin := by unfold hostWrite; split <;> [split <;> [rfl; (split <;> rfl)]; rfl]
@[simp] theorem hostWrite_frameMax (c : Coord) (v : DstPixel) (survives : Bool) (s : State) :
    (hostWrite c v survives s).frameMax = s.frameMax := by unfold hostWrite; split <;> [split <;> [rfl; (split <;> rfl)]; rfl]
@[simp] theorem hostWrite_lut (c : Coord) (v : DstPixel) (survives : Bool) (s : State) :
    (hostWrite c v survives s).lut = s.lut := by unfold hostWrite; split <;> [split <;> [rfl; (split <;> rfl)]; rfl]
@[simp] theorem hostWrite_pending (c : Coord) (v : DstPixel) (survives : Bool) (s : State) :
    (hostWrite c v survives s).pending = s.pending := by unfold hostWrite; split <;> [split <;> [rfl; (split <;> rfl)]; rfl]
@[simp] theorem hostWrite_srcPresent (c : Coord) (v : DstPixel) (survives : Bool) (s : State) :
    (hostWrite c v survives s).srcPresent = s.srcPresent := by unfold hostWrite; split <;> [split <;> [rfl; (split <;> rfl)]; rfl]
@[simp] theorem hostWrite_srcHp (c : Coord) (v : DstPixel) (survives : Bool) (s : State) :
    (hostWrite c v survives s).srcHp = s.srcHp := by unfold hostWrite; split <;> [split <;> [rfl; (split <;> rfl)]; rfl]
@[simp] theorem hostWrite_src (c : Coord) (v : DstPixel) (survives : Bool) (s : State) :
    (hostWrite c v survives s).src = s.src := by unfold hostWrite; split <;> [split <;> [rfl; (split <;> rfl)]; rfl]
@[simp] theorem hostWrite_resp (c : Coord) (v : DstPixel) (survives : Bool) (s : State) :
    (hostWrite c v survives s).resp = s.resp := by unfold hostWrite; split <;> [split <;> [rfl; (split <;> rfl)]; rfl]
@[simp] theorem hostWrite_schedule (c : Coord) (v : DstPixel) (survives : Bool) (s : State) :
    (hostWrite c v survives s).schedule = s.schedule := by unfold hostWrite; split <;> [split <;> [rfl; (split <;> rfl)]; rfl]
@[simp] theorem hostWrite_overlap (c : Coord) (v : DstPixel) (survives : Bool) (s : State) :
    (hostWrite c v survives s).overlap = s.overlap := by unfold hostWrite; split <;> [split <;> [rfl; (split <;> rfl)]; rfl]
@[simp] theorem hostWrite_preFrame (c : Coord) (v : DstPixel) (survives : Bool) (s : State) :
    (hostWrite c v survives s).preFrame = s.preFrame := by unfold hostWrite; split <;> [split <;> [rfl; (split <;> rfl)]; rfl]
@[simp] theorem hostWrite_breach (c : Coord) (v : DstPixel) (survives : Bool) (s : State) :
    (hostWrite c v survives s).breach = s.breach := by unfold hostWrite; split <;> [split <;> [rfl; (split <;> rfl)]; rfl]
@[simp] theorem hostWrite_draws (c : Coord) (v : DstPixel) (survives : Bool) (s : State) :
    (hostWrite c v survives s).draws = s.draws := by unfold hostWrite; split <;> [split <;> [rfl; (split <;> rfl)]; rfl]
@[simp] theorem hostWrite_hostPixel (c : Coord) (v : DstPixel) (survives : Bool) (s : State) :
    (hostWrite c v survives s).hostPixel = s.hostPixel := by unfold hostWrite; split <;> [split <;> [rfl; (split <;> rfl)]; rfl]

end Sys2Proof.Machine
end

