-- ==== Sys2Proof/Laws/Memory.lean ====
section
/-! SUPPORT. The laws of the image spaces: read after write, canonical form, distinct keys. -/

namespace Sys2Proof.Machine

open Sys2Proof

theorem memRead_memWrite_same {w : Nat} (m : Memory w) (k : Nat) (v : BitVec w) :
    memRead (memWrite m k v) k = some v := by
  induction m with
  | nil => simp [memWrite, memRead]
  | cons cell rest ih =>
    obtain ⟨a, u⟩ := cell
    simp only [memWrite]
    split
    · simp [memRead]
    · split
      · simp [memRead]
      · simp [memRead, *]

theorem memRead_memWrite_other {w : Nat} (m : Memory w) (k j : Nat) (v : BitVec w) (h : j ≠ k) :
    memRead (memWrite m k v) j = memRead m j := by
  induction m with
  | nil => simp [memWrite, memRead, h]
  | cons cell rest ih =>
    obtain ⟨a, u⟩ := cell
    simp only [memWrite]
    split
    · simp [memRead, h]
    · split
      · next hk => subst hk; simp [memRead, h]
      · simp only [memRead, ih]

theorem memWrite_all_above {w : Nat} (m : Memory w) (k a : Nat) (v : BitVec w) (ha : a < k)
    (hm : m.all (fun cell => decide (a < cell.1)) = true) :
    (memWrite m k v).all (fun cell => decide (a < cell.1)) = true := by
  induction m with
  | nil => simpa [memWrite] using ha
  | cons cell rest ih =>
    obtain ⟨b, u⟩ := cell
    simp only [List.all_cons, Bool.and_eq_true, decide_eq_true_eq] at hm
    simp only [memWrite]
    split
    · simp only [List.all_cons, Bool.and_eq_true, decide_eq_true_eq]
      exact ⟨ha, hm.1, hm.2⟩
    · split
      · simp only [List.all_cons, Bool.and_eq_true, decide_eq_true_eq]
        exact ⟨ha, hm.2⟩
      · simp only [List.all_cons, Bool.and_eq_true, decide_eq_true_eq]
        exact ⟨hm.1, ih hm.2⟩

/-- Every write keeps the canonical form. -/
theorem memWrite_wf {w : Nat} (m : Memory w) (k : Nat) (v : BitVec w) (h : Memory.wf m = true) :
    Memory.wf (memWrite m k v) = true := by
  induction m with
  | nil => rfl
  | cons cell rest ih =>
    obtain ⟨a, u⟩ := cell
    simp only [Memory.wf, Bool.and_eq_true] at h
    simp only [memWrite]
    split
    · next hka =>
      simp only [Memory.wf, List.all_cons, Bool.and_eq_true, decide_eq_true_eq]
      refine ⟨⟨hka, ?_⟩, h⟩
      simp only [List.all_eq_true, decide_eq_true_eq] at h ⊢
      exact fun cell hc => Nat.lt_trans hka (h.1 cell hc)
    · split
      · next hk => subst hk; simpa [Memory.wf] using h
      · next h1 h2 =>
        simp only [Memory.wf, Bool.and_eq_true]
        exact ⟨memWrite_all_above rest k a v (by omega) h.1, ih h.2⟩

theorem coordKey_inj {c d : Coord} : coordKey c = coordKey d ↔ c = d := by
  constructor
  · intro h
    obtain ⟨cx, cy⟩ := c
    obtain ⟨dx, dy⟩ := d
    simp only [coordKey] at h
    have := cx.isLt
    have := dx.isLt
    have hy : cy.toNat = dy.toNat := by omega
    have hx : cx.toNat = dx.toNat := by omega
    rw [BitVec.eq_of_toNat_eq hx, BitVec.eq_of_toNat_eq hy]
  · rintro rfl; rfl

@[simp] theorem dstAt_write_same (m : Memory 32) (c : Coord) (v : DstPixel) :
    dstAt (memWrite m (coordKey c) v) c = v := by
  simp [dstAt, memRead_memWrite_same]

theorem dstAt_write_other (m : Memory 32) (c d : Coord) (v : DstPixel) (h : d ≠ c) :
    dstAt (memWrite m (coordKey c) v) d = dstAt m d := by
  simp [dstAt, memRead_memWrite_other _ _ _ _ (mt coordKey_inj.1 h)]

@[simp] theorem srcAt_write_same (m : Memory 64) (c : Coord) (p : SrcPixel) :
    srcAt (memWrite m (coordKey c) p) c = p := by
  simp [srcAt, memRead_memWrite_same]

theorem srcAt_write_other (m : Memory 64) (c d : Coord) (p : SrcPixel) (h : d ≠ c) :
    srcAt (memWrite m (coordKey c) p) d = srcAt m d := by
  simp [srcAt, memRead_memWrite_other _ _ _ _ (mt coordKey_inj.1 h)]

end Sys2Proof.Machine
end

