-- ==== Sys2Proof/Laws/Operands.lean ====
section
/-! SUPPORT. What the operand forms give: the clamp of LOSS, and the rectangle of two corners as a set. -/

namespace Sys2Proof.Machine

open Sys2Proof

/-- R147: the stored level is the signed word clamped to 0..7. -/
theorem clampLoss_toNat (data : Word) :
    ((clampLoss data).toNat : Int) = if data.toInt < 0 then 0 else if 7 < data.toInt then 7 else data.toInt := by
  unfold clampLoss
  generalize data.toInt = v
  rw [BitVec.toNat_ofInt]
  split
  · rfl
  · split
    · rfl
    · omega

theorem toInt_succ (v : BitVec 32) (h : v.toInt + 1 < 2 ^ 31) : (v + 1).toInt = v.toInt + 1 := by
  have := v.isLt
  have h1 : (1 : BitVec 32).toNat = 1 := rfl
  simp only [BitVec.toInt_eq_toNat_cond, BitVec.toNat_add, h1] at *
  split at h <;> split <;> omega

theorem toInt_lt_32 (v : BitVec 32) : v.toInt < 2 ^ 31 := by
  have := BitVec.toInt_lt (x := v); omega

theorem mem_axisFrom (lo : BitVec 32) (n : Nat) (h : lo.toInt + n ≤ 2 ^ 31 - 1) (v : BitVec 32) :
    v ∈ axisFrom lo n ↔ lo.toInt ≤ v.toInt ∧ v.toInt < lo.toInt + n := by
  induction n generalizing lo with
  | zero => simp [axisFrom]
  | succ k ih =>
    have hs : (lo + 1).toInt = lo.toInt + 1 := toInt_succ lo (by omega)
    simp only [axisFrom, List.mem_cons, ih (lo + 1) (by omega), hs]
    constructor
    · rintro (rfl | h1)
      · omega
      · omega
    · intro h1
      by_cases hv : v.toInt = lo.toInt
      · exact Or.inl (BitVec.eq_of_toInt_eq hv)
      · right; omega

theorem axisFrom_nodup (lo : BitVec 32) (n : Nat) (h : lo.toInt + n ≤ 2 ^ 31 - 1) :
    (axisFrom lo n).Nodup := by
  induction n generalizing lo with
  | zero => simp [axisFrom]
  | succ k ih =>
    have hs : (lo + 1).toInt = lo.toInt + 1 := toInt_succ lo (by omega)
    simp only [axisFrom, List.nodup_cons]
    exact ⟨fun hm => by have := (mem_axisFrom (lo + 1) k (by omega) lo).1 hm; omega, ih (lo + 1) (by omega)⟩

theorem axis_bound (lo hi : BitVec 32) :
    axis lo hi = [] ∨ lo.toInt + (hi.toInt - lo.toInt).toNat ≤ 2 ^ 31 - 1 := by
  by_cases h : hi.toInt ≤ lo.toInt
  · left
    have : (hi.toInt - lo.toInt).toNat = 0 := by omega
    simp [axis, this, axisFrom]
  · right
    have := toInt_lt_32 hi
    omega

/-- The members of one axis of a rectangle: signed compares (R172). -/
theorem mem_axis (lo hi v : BitVec 32) : v ∈ axis lo hi ↔ lo.toInt ≤ v.toInt ∧ v.toInt < hi.toInt := by
  by_cases h : hi.toInt ≤ lo.toInt
  · have : (hi.toInt - lo.toInt).toNat = 0 := by omega
    simp only [axis, this, axisFrom, List.not_mem_nil, false_iff]
    omega
  · have := toInt_lt_32 hi
    rw [axis, mem_axisFrom _ _ (by omega)]
    omega

theorem axis_nodup (lo hi : BitVec 32) : (axis lo hi).Nodup := by
  rcases axis_bound lo hi with h | h
  · simp [h]
  · exact axisFrom_nodup lo _ h

/-- The members of the rectangle of FRAME_MIN and FRAME_MAX (R32, R172). -/
theorem mem_rectangle (s : State) (c : Coord) :
    c ∈ rectangle s.frameMin s.frameMax ↔ inFrame s c = true := by
  obtain ⟨x, y⟩ := c
  simp only [rectangle, List.mem_flatMap, List.mem_map, mem_axis, inFrame, Bool.and_eq_true, decide_eq_true_eq,
    Coord.mk.injEq]
  constructor
  · rintro ⟨y', hy, x', hx, rfl, rfl⟩
    exact ⟨⟨⟨hx.1, hx.2⟩, hy.1⟩, hy.2⟩
  · rintro ⟨⟨⟨h1, h2⟩, h3⟩, h4⟩
    exact ⟨y, ⟨h3, h4⟩, x, ⟨h1, h2⟩, rfl, rfl⟩

/-- The rectangle is a set: no coordinate twice (R34). -/
theorem rectangle_nodup (min max : Word) : (rectangle min max).Nodup := by
  unfold rectangle
  rw [List.nodup_flatMap]
  refine ⟨fun y _ => ?_, ?_⟩
  · exact (axis_nodup _ _).map fun a b h => by simpa using h
  · refine (axis_nodup _ _).imp ?_
    intro a b hab c hc hd
    simp only [List.mem_map] at hc hd
    obtain ⟨x, _, rfl⟩ := hc
    obtain ⟨x', _, h⟩ := hd
    exact hab (by simpa using (congrArg Coord.y h).symm)

end Sys2Proof.Machine
end

