-- ==== Sys2Proof/Laws/Ops.lean ====
section
/-! SUPPORT. What the shared operations, the transactions and the sequencer can do, said once. -/

namespace Sys2Proof.Machine

open Sys2Proof Sys2Proof.Safety

theorem busy_iff (s : State) : busy s = true ↔ s.pending ≠ [] := by
  cases h : s.pending <;> simp [busy, h]

theorem busy_eq_false_iff (s : State) : busy s = false ↔ s.pending = [] := by
  cases h : s.pending <;> simp [busy, h]

@[simp] theorem guarded_busy (s : State) (write : State → Result) (h : busy s = true) :
    guarded s write = .next (reject s) := by simp [guarded, h]

@[simp] theorem guarded_idle (s : State) (write : State → Result) (h : busy s = false) :
    guarded s write = write s := by simp [guarded, h]

/-! ### The guarded instructions, unfolded once -/

theorem exec_wrLoss (d : Word) (s : State) :
    exec (.wrLoss d) s = guarded s fun s => .next { s with loss := clampLoss d } := rfl

theorem exec_wrGamma (d : Word) (s : State) :
    exec (.wrGamma d) s = guarded s fun s => .next (storeGamma Config.params d s) := rfl

theorem exec_wrFrameMin (d : Word) (s : State) :
    exec (.wrFrameMin d) s = guarded s fun s => .next { s with frameMin := d } := rfl

theorem exec_wrFrameMax (d : Word) (s : State) :
    exec (.wrFrameMax d) s = guarded s fun s => .next { s with frameMax := d } := rfl

theorem exec_cmdPixel (s : State) :
    exec .cmdPixel s = guarded s fun s => .next (pixelCommand Config.params s) := rfl

theorem exec_cmdFrame (s : State) : exec .cmdFrame s = guarded s frameCommand := rfl

theorem exec_cmdReserved (w : Word) (s : State) :
    exec (.cmdReserved w) s = guarded s fun s => .next (raiseError codeBadCmd s) := rfl

/-- What an accepted or failed FRAME can do (R172). -/
theorem frameCommand_cases {s t : State} (h : frameCommand s = .next t) :
    (s.srcPresent = false ∧ t = raiseError codeNoSource s) ∨
    (s.srcPresent = true ∧ s.srcHp = false ∧ t = raiseError codeNoCapability s) ∨
    (s.srcPresent = true ∧ s.srcHp = true ∧ t = acceptFrame s) := by
  unfold frameCommand at h
  split at h
  · next hp => exact Or.inl ⟨by simpa using hp, by simpa using h.symm⟩
  · next hp =>
    have hp : s.srcPresent = true := by simpa using hp
    split at h
    · next hh => exact Or.inr (Or.inl ⟨hp, by simpa using hh, by simpa using h.symm⟩)
    · next hh =>
      split at h
      · simp at h
      · exact Or.inr (Or.inr ⟨hp, by simpa using hh, by simpa using h.symm⟩)

/-- What a transaction can do: the effect of each row, or the refusal of a busy block. -/
inductive Effect (s : State) : Instr → State → Prop where
  | answer (i : Instr) (v : Word) : Effect s i (respond v s)
  | nothing (i : Instr) : Effect s i s
  | rejected (i : Instr) : isGuarded i = true → busy s = true → Effect s i (reject s)
  | status (d : Word) : Effect s (.wrStatus d) (clearStatus d s)
  | irqen (d : Word) : Effect s (.wrIrqen d) { s with irqen := irqenOf d }
  | pixIn (d : Word) : Effect s (.wrPixIn d) { s with pixIn := d }
  | pixXy (d : Word) : Effect s (.wrPixXy d) { s with pixXy := d }
  | loss (d : Word) : busy s = false → Effect s (.wrLoss d) { s with loss := clampLoss d }
  | gamma (d : Word) : busy s = false → Effect s (.wrGamma d) (storeGamma Config.params d s)
  | frameMin (d : Word) : busy s = false → Effect s (.wrFrameMin d) { s with frameMin := d }
  | frameMax (d : Word) : busy s = false → Effect s (.wrFrameMax d) { s with frameMax := d }
  | pixel : busy s = false → Effect s .cmdPixel (pixelCommand Config.params s)
  | frameError (code : BitVec 4) : busy s = false → code = codeNoSource ∨ code = codeNoCapability →
      Effect s .cmdFrame (raiseError code s)
  | frame : busy s = false → Effect s .cmdFrame (acceptFrame s)
  | badCommand (w : Word) : busy s = false → Effect s (.cmdReserved w) (raiseError codeBadCmd s)

/-- Every transaction that answers a next state has one of the effects above. -/
theorem exec_effect {i : Instr} {s t : State} (h : exec i s = .next t) : Effect s i t := by
  have answer : ∀ (j : Instr) (v : Word), (Host.Outcome.next (respond v s) : Result) = .next t →
      Effect s j t := by
    rintro j v ⟨⟩; exact .answer j v
  have nothing : ∀ j : Instr, (Host.Outcome.next s : Result) = .next t → Effect s j t := by
    rintro j ⟨⟩; exact .nothing j
  have guard : ∀ (j : Instr) (write : State → Result), isGuarded j = true → guarded s write = .next t →
      (busy s = false → write s = .next t → Effect s j t) → Effect s j t := by
    intro j write hj hg hw
    cases hb : busy s with
    | true => rw [guarded_busy s write hb] at hg; cases hg; exact .rejected j hj hb
    | false => rw [guarded_idle s write hb] at hg; exact hw hb hg
  cases i with
  | wrStatus d => cases h; exact .status d
  | wrIrqen d => cases h; exact .irqen d
  | wrPixIn d => cases h; exact .pixIn d
  | wrPixXy d => cases h; exact .pixXy d
  | wrLoss d =>
    exact guard _ (fun s => .next { s with loss := clampLoss d }) rfl h fun hb hw => by
      cases hw; exact .loss d hb
  | wrGamma d =>
    exact guard _ (fun s => .next (storeGamma Config.params d s)) rfl h fun hb hw => by
      cases hw; exact .gamma d hb
  | wrFrameMin d =>
    exact guard _ (fun s => .next { s with frameMin := d }) rfl h fun hb hw => by
      cases hw; exact .frameMin d hb
  | wrFrameMax d =>
    exact guard _ (fun s => .next { s with frameMax := d }) rfl h fun hb hw => by
      cases hw; exact .frameMax d hb
  | cmdPixel =>
    exact guard _ (fun s => .next (pixelCommand Config.params s)) rfl h fun hb hw => by
      cases hw; exact .pixel hb
  | cmdReserved w =>
    exact guard _ (fun s => .next (raiseError codeBadCmd s)) rfl h fun hb hw => by
      cases hw; exact .badCommand w hb
  | cmdFrame =>
    refine guard _ frameCommand rfl h fun hb hw => ?_
    rcases frameCommand_cases hw with ⟨_, rfl⟩ | ⟨_, _, rfl⟩ | ⟨_, _, rfl⟩
    · exact .frameError _ hb (Or.inl rfl)
    · exact .frameError _ hb (Or.inr rfl)
    · exact .frame hb
  | _ => first | exact answer _ _ h | exact nothing _ h

/-- The pick of a running frame is one of its coordinates. -/
theorem picked_mem {s : State} {k : Nat} {c : Coord} (h : picked s k = some c) : c ∈ s.pending :=
  List.mem_of_getElem? h

/-- A running frame always has a pick (R173). -/
theorem picked_some {s : State} (k : Nat) (h : busy s = true) : ∃ c, picked s k = some c := by
  have hne := (busy_iff s).1 h
  have hpos : 0 < s.pending.length := List.length_pos_iff.2 hne
  exact ⟨_, List.getElem?_eq_getElem (Nat.mod_lt k hpos)⟩

/-- An idle block has none, so a sequencer step does nothing (R173, R215). -/
theorem sequencerStep_idle (P : Params) (k : Nat) (s : State) (h : busy s = false) :
    sequencerStep P k s = s := by
  simp [sequencerStep, picked, (busy_eq_false_iff s).1 h]

theorem sequencerStep_picked (P : Params) {k : Nat} {s : State} {c : Coord} (h : picked s k = some c) :
    sequencerStep P k s = retire c (frameWrite P c s) := by
  simp [sequencerStep, h]

@[simp] theorem retire_pending (c : Coord) (s : State) : (retire c s).pending = s.pending.erase c := by
  simp only [retire]; split <;> simp

@[simp] theorem retire_dst (c : Coord) (s : State) : (retire c s).dst = s.dst := by
  simp only [retire]; split <;> simp

/-- The end of a sequencer step: the frame goes on, or ends with DONE (R174). -/
theorem retire_cases (c : Coord) (s : State) :
    (s.pending.erase c ≠ [] ∧ retire c s = { s with pending := s.pending.erase c }) ∨
    (s.pending.erase c = [] ∧ retire c s = finishFrame { s with pending := s.pending.erase c }) := by
  simp only [retire]
  cases hb : busy { s with pending := s.pending.erase c } with
  | true => exact Or.inl ⟨(busy_iff _).1 hb, by simp⟩
  | false => exact Or.inr ⟨(busy_eq_false_iff _).1 hb, by simp⟩

/-- The acceptance of a FRAME: the rectangle is pending, or empty and done (R172). -/
theorem acceptFrame_cases (s : State) :
    (rectangle s.frameMin s.frameMax ≠ [] ∧ acceptFrame s = startFrame s) ∨
    (rectangle s.frameMin s.frameMax = [] ∧ acceptFrame s = finishFrame (startFrame s)) := by
  simp only [acceptFrame]
  cases hb : busy (startFrame s) with
  | true => exact Or.inl ⟨(busy_iff _).1 hb, by simp⟩
  | false => exact Or.inr ⟨(busy_eq_false_iff _).1 hb, by simp⟩

theorem dstAt_frameWrite_other (P : Params) (c d : Coord) (s : State) (h : d ≠ c) :
    dstAt (frameWrite P c s).dst d = dstAt s.dst d := by
  unfold frameWrite
  split
  · rfl
  · simp [dstAt_write_other _ _ _ _ h]

theorem dstAt_frameWrite_same (P : Params) (c : Coord) (s : State) :
    dstAt (frameWrite P c s).dst c = if c ∈ s.kept then dstAt s.dst c else frameValue P s c := by
  unfold frameWrite
  split <;> simp [*]

/-- A sequencer write changes the destination alone. -/
theorem frameWrite_frame (P : Params) (c : Coord) (s : State) :
    frameWrite P c s = { s with dst := (frameWrite P c s).dst } := by
  unfold frameWrite; split <;> rfl

/-- Taking the next event changes the schedule and the draw counter alone. -/
theorem nextEvent_frame (s : State) :
    (nextEvent s).2 = { s with schedule := (nextEvent s).2.schedule, draws := (nextEvent s).2.draws } := by
  unfold nextEvent
  split
  · rfl
  · split <;> rfl

/-- A running frame is untouched by every transaction (R141). -/
theorem exec_while_busy {s t : State} {i : Instr} (hb : busy s = true) (h : exec i s = .next t) :
    t.loss = s.loss ∧ t.gamma = s.gamma ∧ t.lut = s.lut ∧ t.frameMin = s.frameMin ∧ t.frameMax = s.frameMax ∧
      t.pending = s.pending ∧ t.dst = s.dst ∧ t.src = s.src ∧ t.preFrame = s.preFrame ∧ t.kept = s.kept ∧
      t.breach = s.breach ∧ t.draws = s.draws ∧ t.schedule = s.schedule := by
  cases exec_effect h <;> simp_all

/-- A run goes through its first step. -/
theorem run_succ_next {s t : State} {k : Nat} (h : step s = .next t) :
    Sys2Proof.core.run (k + 1) s = Sys2Proof.core.run k t := by
  have h' : Sys2Proof.core.step s = .next t := h
  simp only [Host.Core.run, h']

/-! ### The platform's events -/

/-- A breach is recorded while a frame runs (R236). -/
theorem breachDuty_busy {s : State} (h : busy s = true) :
    breachDuty s = { s with breach := some s.draws, draws := s.draws + 1 } := by simp [breachDuty, h]

/-- Outside a frame there is no duty to break (R236). -/
theorem breachDuty_idle {s : State} (h : busy s = false) : breachDuty s = s := by simp [breachDuty, h]

/-- All a breach can do: the record of it. -/
theorem breachDuty_frame (s : State) :
    breachDuty s = { s with breach := (breachDuty s).breach, draws := (breachDuty s).draws } := by
  unfold breachDuty; split <;> rfl

/-- A breach that stands, or a new one. -/
theorem breachDuty_keeps {s : State} {n : Nat} (h : s.breach = some n) : ∃ m, (breachDuty s).breach = some m := by
  unfold breachDuty
  split
  · exact ⟨_, rfl⟩
  · exact ⟨n, h⟩

/-- Once the duty is broken the frame writes free values (R236). -/
theorem frameValue_breach (P : Params) {s : State} {n : Nat} (c : Coord) (h : s.breach = some n) :
    frameValue P s c = Config.freePixel n c := by simp [frameValue, h]

/-- A host write elsewhere does not change the outcome at a coordinate (R237). -/
theorem mem_kept_hostWrite_other {c d : Coord} (h : d ≠ c) (v : DstPixel) (survives : Bool) (s : State) :
    d ∈ (hostWrite c v survives s).kept ↔ d ∈ s.kept := by
  unfold hostWrite
  split
  · split
    · cases survives <;> simp [h]
    · split <;> rfl
  · rfl

/-- A host write at a pending coordinate of the frame sets its outcome (R237). -/
theorem mem_kept_hostWrite_same {c : Coord} {s : State} (hr : races s c = true) (hc : c ∈ s.pending)
    (v : DstPixel) (survives : Bool) : c ∈ (hostWrite c v survives s).kept ↔ survives = true := by
  unfold hostWrite
  rw [if_pos hr, if_pos hc]
  cases survives <;> simp

/-- A host write leaves every other pixel (R237). -/
theorem dstAt_hostWrite_other {c d : Coord} (h : d ≠ c) (v : DstPixel) (survives : Bool) (s : State) :
    dstAt (hostWrite c v survives s).dst d = dstAt s.dst d := by
  unfold hostWrite
  split
  · split
    · simp [dstAt_write_other _ _ _ _ h]
    · split
      · simp [dstAt_write_other _ _ _ _ h]
      · rfl
  · simp [dstAt_write_other _ _ _ _ h]

/-- All a host write can do: the pixel and its outcome. -/
theorem hostWrite_frame (c : Coord) (v : DstPixel) (survives : Bool) (s : State) :
    hostWrite c v survives s =
      { s with dst := (hostWrite c v survives s).dst, kept := (hostWrite c v survives s).kept } := by
  unfold hostWrite
  split
  · split
    · rfl
    · split <;> rfl
  · rfl

/-- A running frame is untouched by every host transaction word (R141). -/
theorem runTransaction_while_busy {s t : State} {tw : Transaction} (hb : busy s = true)
    (h : runTransaction tw s = .next t) :
    t.loss = s.loss ∧ t.gamma = s.gamma ∧ t.lut = s.lut ∧ t.frameMin = s.frameMin ∧ t.frameMax = s.frameMax ∧
      t.pending = s.pending ∧ t.dst = s.dst ∧ t.src = s.src ∧ t.preFrame = s.preFrame ∧ t.kept = s.kept ∧
      t.breach = s.breach ∧ t.draws = s.draws ∧ t.schedule = s.schedule := by
  unfold runTransaction at h
  split at h
  · exact exec_while_busy hb h
  · cases h

/-- A running frame is untouched by every bus access (R141). -/
theorem busEvent_while_busy {s t : State} {a : BusAccess} (hb : busy s = true) (h : busEvent a s = .next t) :
    t.loss = s.loss ∧ t.gamma = s.gamma ∧ t.lut = s.lut ∧ t.frameMin = s.frameMin ∧ t.frameMax = s.frameMax ∧
      t.pending = s.pending ∧ t.dst = s.dst ∧ t.src = s.src ∧ t.preFrame = s.preFrame ∧ t.kept = s.kept ∧
      t.breach = s.breach ∧ t.draws = s.draws ∧ t.schedule = s.schedule := by
  unfold busEvent at h
  split at h
  · cases h; simp
  · cases h
  · exact runTransaction_while_busy hb h

end Sys2Proof.Machine
end

