-- ==== Sys2Proof/Laws/PerInstr.lean ====
section
/-! SUPPORT. Per instruction: its encoding agrees with its row of spec/opcode_table.json, whose match and mask
are written out here from that table. -/

namespace Sys2Proof.Laws.TableWord

open Sys2Proof

/-- The mask of the rows that fix WE and OFFSET only. -/
def addressMask : Transaction := 0x1FF0000000000000000

/-- The mask of the rows that fix all 73 bits. -/
def wholeMask : Transaction := 0x1FFFFFFFFFFFFFFFFFF

/-- The mask of an instruction's row. -/
def mask : Instr → Transaction
  | .rdId => addressMask
  | .wrId _ => addressMask
  | .rdStatus => addressMask
  | .wrStatus _ => addressMask
  | .rdIrqen => addressMask
  | .wrIrqen _ => addressMask
  | .rdLoss => addressMask
  | .wrLoss _ => addressMask
  | .rdGamma => addressMask
  | .wrGamma _ => addressMask
  | .rdPixIn => addressMask
  | .wrPixIn _ => addressMask
  | .rdPixXy => addressMask
  | .wrPixXy _ => addressMask
  | .rdPixOut => addressMask
  | .wrPixOut _ => addressMask
  | .rdFrameMin => addressMask
  | .wrFrameMin _ => addressMask
  | .rdFrameMax => addressMask
  | .wrFrameMax _ => addressMask
  | .rdCmd => addressMask
  | .cmdPixel => wholeMask
  | .cmdFrame => wholeMask
  | .cmdReserved _ => addressMask
  | .rdRsvd58 => addressMask
  | .wrRsvd58 _ => addressMask
  | .rdRsvd60 => addressMask
  | .wrRsvd60 _ => addressMask
  | .rdRsvd68 => addressMask
  | .wrRsvd68 _ => addressMask
  | .rdRsvd70 => addressMask
  | .wrRsvd70 _ => addressMask
  | .rdRsvd78 => addressMask
  | .wrRsvd78 _ => addressMask
  | .rdRsvd80 => addressMask
  | .wrRsvd80 _ => addressMask
  | .rdRsvd88 => addressMask
  | .wrRsvd88 _ => addressMask
  | .rdRsvd90 => addressMask
  | .wrRsvd90 _ => addressMask
  | .rdRsvd98 => addressMask
  | .wrRsvd98 _ => addressMask
  | .rdRsvdA0 => addressMask
  | .wrRsvdA0 _ => addressMask
  | .rdRsvdA8 => addressMask
  | .wrRsvdA8 _ => addressMask
  | .rdRsvdB0 => addressMask
  | .wrRsvdB0 _ => addressMask
  | .rdRsvdB8 => addressMask
  | .wrRsvdB8 _ => addressMask
  | .rdRsvdC0 => addressMask
  | .wrRsvdC0 _ => addressMask
  | .rdRsvdC8 => addressMask
  | .wrRsvdC8 _ => addressMask
  | .rdRsvdD0 => addressMask
  | .wrRsvdD0 _ => addressMask
  | .rdRsvdD8 => addressMask
  | .wrRsvdD8 _ => addressMask
  | .rdRsvdE0 => addressMask
  | .wrRsvdE0 _ => addressMask
  | .rdRsvdE8 => addressMask
  | .wrRsvdE8 _ => addressMask
  | .rdRsvdF0 => addressMask
  | .wrRsvdF0 _ => addressMask
  | .rdRsvdF8 => addressMask
  | .wrRsvdF8 _ => addressMask

/-- The match of an instruction's row. -/
def row : Instr → Transaction
  | .rdId => 0x0000000000000000000
  | .wrId _ => 0x1000000000000000000
  | .rdStatus => 0x0080000000000000000
  | .wrStatus _ => 0x1080000000000000000
  | .rdIrqen => 0x0100000000000000000
  | .wrIrqen _ => 0x1100000000000000000
  | .rdLoss => 0x0180000000000000000
  | .wrLoss _ => 0x1180000000000000000
  | .rdGamma => 0x0200000000000000000
  | .wrGamma _ => 0x1200000000000000000
  | .rdPixIn => 0x0280000000000000000
  | .wrPixIn _ => 0x1280000000000000000
  | .rdPixXy => 0x0300000000000000000
  | .wrPixXy _ => 0x1300000000000000000
  | .rdPixOut => 0x0380000000000000000
  | .wrPixOut _ => 0x1380000000000000000
  | .rdFrameMin => 0x0400000000000000000
  | .wrFrameMin _ => 0x1400000000000000000
  | .rdFrameMax => 0x0480000000000000000
  | .wrFrameMax _ => 0x1480000000000000000
  | .rdCmd => 0x0500000000000000000
  | .cmdPixel => 0x1500000000000000001
  | .cmdFrame => 0x1500000000000000002
  | .cmdReserved _ => 0x1500000000000000000
  | .rdRsvd58 => 0x0580000000000000000
  | .wrRsvd58 _ => 0x1580000000000000000
  | .rdRsvd60 => 0x0600000000000000000
  | .wrRsvd60 _ => 0x1600000000000000000
  | .rdRsvd68 => 0x0680000000000000000
  | .wrRsvd68 _ => 0x1680000000000000000
  | .rdRsvd70 => 0x0700000000000000000
  | .wrRsvd70 _ => 0x1700000000000000000
  | .rdRsvd78 => 0x0780000000000000000
  | .wrRsvd78 _ => 0x1780000000000000000
  | .rdRsvd80 => 0x0800000000000000000
  | .wrRsvd80 _ => 0x1800000000000000000
  | .rdRsvd88 => 0x0880000000000000000
  | .wrRsvd88 _ => 0x1880000000000000000
  | .rdRsvd90 => 0x0900000000000000000
  | .wrRsvd90 _ => 0x1900000000000000000
  | .rdRsvd98 => 0x0980000000000000000
  | .wrRsvd98 _ => 0x1980000000000000000
  | .rdRsvdA0 => 0x0A00000000000000000
  | .wrRsvdA0 _ => 0x1A00000000000000000
  | .rdRsvdA8 => 0x0A80000000000000000
  | .wrRsvdA8 _ => 0x1A80000000000000000
  | .rdRsvdB0 => 0x0B00000000000000000
  | .wrRsvdB0 _ => 0x1B00000000000000000
  | .rdRsvdB8 => 0x0B80000000000000000
  | .wrRsvdB8 _ => 0x1B80000000000000000
  | .rdRsvdC0 => 0x0C00000000000000000
  | .wrRsvdC0 _ => 0x1C00000000000000000
  | .rdRsvdC8 => 0x0C80000000000000000
  | .wrRsvdC8 _ => 0x1C80000000000000000
  | .rdRsvdD0 => 0x0D00000000000000000
  | .wrRsvdD0 _ => 0x1D00000000000000000
  | .rdRsvdD8 => 0x0D80000000000000000
  | .wrRsvdD8 _ => 0x1D80000000000000000
  | .rdRsvdE0 => 0x0E00000000000000000
  | .wrRsvdE0 _ => 0x1E00000000000000000
  | .rdRsvdE8 => 0x0E80000000000000000
  | .wrRsvdE8 _ => 0x1E80000000000000000
  | .rdRsvdF0 => 0x0F00000000000000000
  | .wrRsvdF0 _ => 0x1F00000000000000000
  | .rdRsvdF8 => 0x0F80000000000000000
  | .wrRsvdF8 _ => 0x1F80000000000000000

/-- The encoding, masked as the table masks the row, is the row's match. -/
def Statement (i : Instr) : Prop := encode i &&& mask i = row i

theorem mk_masked (we : Bool) (o : BitVec 8) (d : Word) :
    Transaction.mk we o d &&& addressMask = Transaction.mk we o 0 := by
  apply BitVec.eq_of_getLsbD_eq
  intro i hi
  have hm : addressMask.getLsbD i = decide (64 ≤ i) := by
    have : ∀ j : Fin 73, addressMask.getLsbD j.1 = decide (64 ≤ j.1) := by decide
    exact this ⟨i, hi⟩
  simp only [BitVec.getLsbD_and, hm, Transaction.mk, BitVec.getLsbD_append]
  by_cases h1 : i < 64
  · have : ¬ 64 ≤ i := by omega
    simp [h1, this]
  · have : 64 ≤ i := by omega
    simp [h1, this]

theorem rdId : Statement .rdId := by unfold Statement; decide
theorem wrId (data : Word) : Statement (.wrId data) := (mk_masked _ _ _).trans rfl
theorem rdStatus : Statement .rdStatus := by unfold Statement; decide
theorem wrStatus (data : Word) : Statement (.wrStatus data) := (mk_masked _ _ _).trans rfl
theorem rdIrqen : Statement .rdIrqen := by unfold Statement; decide
theorem wrIrqen (data : Word) : Statement (.wrIrqen data) := (mk_masked _ _ _).trans rfl
theorem rdLoss : Statement .rdLoss := by unfold Statement; decide
theorem wrLoss (data : Word) : Statement (.wrLoss data) := (mk_masked _ _ _).trans rfl
theorem rdGamma : Statement .rdGamma := by unfold Statement; decide
theorem wrGamma (data : Word) : Statement (.wrGamma data) := (mk_masked _ _ _).trans rfl
theorem rdPixIn : Statement .rdPixIn := by unfold Statement; decide
theorem wrPixIn (data : Word) : Statement (.wrPixIn data) := (mk_masked _ _ _).trans rfl
theorem rdPixXy : Statement .rdPixXy := by unfold Statement; decide
theorem wrPixXy (data : Word) : Statement (.wrPixXy data) := (mk_masked _ _ _).trans rfl
theorem rdPixOut : Statement .rdPixOut := by unfold Statement; decide
theorem wrPixOut (data : Word) : Statement (.wrPixOut data) := (mk_masked _ _ _).trans rfl
theorem rdFrameMin : Statement .rdFrameMin := by unfold Statement; decide
theorem wrFrameMin (data : Word) : Statement (.wrFrameMin data) := (mk_masked _ _ _).trans rfl
theorem rdFrameMax : Statement .rdFrameMax := by unfold Statement; decide
theorem wrFrameMax (data : Word) : Statement (.wrFrameMax data) := (mk_masked _ _ _).trans rfl
theorem rdCmd : Statement .rdCmd := by unfold Statement; decide
theorem cmdPixel : Statement .cmdPixel := by unfold Statement; decide
theorem cmdFrame : Statement .cmdFrame := by unfold Statement; decide
theorem cmdReserved (word : Word) : Statement (.cmdReserved word) := (mk_masked _ _ _).trans rfl
theorem rdRsvd58 : Statement .rdRsvd58 := by unfold Statement; decide
theorem wrRsvd58 (data : Word) : Statement (.wrRsvd58 data) := (mk_masked _ _ _).trans rfl
theorem rdRsvd60 : Statement .rdRsvd60 := by unfold Statement; decide
theorem wrRsvd60 (data : Word) : Statement (.wrRsvd60 data) := (mk_masked _ _ _).trans rfl
theorem rdRsvd68 : Statement .rdRsvd68 := by unfold Statement; decide
theorem wrRsvd68 (data : Word) : Statement (.wrRsvd68 data) := (mk_masked _ _ _).trans rfl
theorem rdRsvd70 : Statement .rdRsvd70 := by unfold Statement; decide
theorem wrRsvd70 (data : Word) : Statement (.wrRsvd70 data) := (mk_masked _ _ _).trans rfl
theorem rdRsvd78 : Statement .rdRsvd78 := by unfold Statement; decide
theorem wrRsvd78 (data : Word) : Statement (.wrRsvd78 data) := (mk_masked _ _ _).trans rfl
theorem rdRsvd80 : Statement .rdRsvd80 := by unfold Statement; decide
theorem wrRsvd80 (data : Word) : Statement (.wrRsvd80 data) := (mk_masked _ _ _).trans rfl
theorem rdRsvd88 : Statement .rdRsvd88 := by unfold Statement; decide
theorem wrRsvd88 (data : Word) : Statement (.wrRsvd88 data) := (mk_masked _ _ _).trans rfl
theorem rdRsvd90 : Statement .rdRsvd90 := by unfold Statement; decide
theorem wrRsvd90 (data : Word) : Statement (.wrRsvd90 data) := (mk_masked _ _ _).trans rfl
theorem rdRsvd98 : Statement .rdRsvd98 := by unfold Statement; decide
theorem wrRsvd98 (data : Word) : Statement (.wrRsvd98 data) := (mk_masked _ _ _).trans rfl
theorem rdRsvdA0 : Statement .rdRsvdA0 := by unfold Statement; decide
theorem wrRsvdA0 (data : Word) : Statement (.wrRsvdA0 data) := (mk_masked _ _ _).trans rfl
theorem rdRsvdA8 : Statement .rdRsvdA8 := by unfold Statement; decide
theorem wrRsvdA8 (data : Word) : Statement (.wrRsvdA8 data) := (mk_masked _ _ _).trans rfl
theorem rdRsvdB0 : Statement .rdRsvdB0 := by unfold Statement; decide
theorem wrRsvdB0 (data : Word) : Statement (.wrRsvdB0 data) := (mk_masked _ _ _).trans rfl
theorem rdRsvdB8 : Statement .rdRsvdB8 := by unfold Statement; decide
theorem wrRsvdB8 (data : Word) : Statement (.wrRsvdB8 data) := (mk_masked _ _ _).trans rfl
theorem rdRsvdC0 : Statement .rdRsvdC0 := by unfold Statement; decide
theorem wrRsvdC0 (data : Word) : Statement (.wrRsvdC0 data) := (mk_masked _ _ _).trans rfl
theorem rdRsvdC8 : Statement .rdRsvdC8 := by unfold Statement; decide
theorem wrRsvdC8 (data : Word) : Statement (.wrRsvdC8 data) := (mk_masked _ _ _).trans rfl
theorem rdRsvdD0 : Statement .rdRsvdD0 := by unfold Statement; decide
theorem wrRsvdD0 (data : Word) : Statement (.wrRsvdD0 data) := (mk_masked _ _ _).trans rfl
theorem rdRsvdD8 : Statement .rdRsvdD8 := by unfold Statement; decide
theorem wrRsvdD8 (data : Word) : Statement (.wrRsvdD8 data) := (mk_masked _ _ _).trans rfl
theorem rdRsvdE0 : Statement .rdRsvdE0 := by unfold Statement; decide
theorem wrRsvdE0 (data : Word) : Statement (.wrRsvdE0 data) := (mk_masked _ _ _).trans rfl
theorem rdRsvdE8 : Statement .rdRsvdE8 := by unfold Statement; decide
theorem wrRsvdE8 (data : Word) : Statement (.wrRsvdE8 data) := (mk_masked _ _ _).trans rfl
theorem rdRsvdF0 : Statement .rdRsvdF0 := by unfold Statement; decide
theorem wrRsvdF0 (data : Word) : Statement (.wrRsvdF0 data) := (mk_masked _ _ _).trans rfl
theorem rdRsvdF8 : Statement .rdRsvdF8 := by unfold Statement; decide
theorem wrRsvdF8 (data : Word) : Statement (.wrRsvdF8 data) := (mk_masked _ _ _).trans rfl

end Sys2Proof.Laws.TableWord
end

