-- ==== Sys2Proof/Tests/Slice0.lean ====
section
/-! SUPPORT. The tests of the model against the vectors of spec 95_test_vectors.md, and a witness for the
hypotheses of every statement. -/

namespace Sys2Proof.Tests

open Sys2Proof Sys2Proof.Machine Sys2Proof.Safety

/-! ### Syntax and decoding -/

/-- Ill-formed: a CMD.RESERVED term whose word is PIXEL's or FRAME's (R83, R84). -/
theorem test_wf_refuses_defined_commands :
    (Instr.cmdReserved 1).wf = false ∧ (Instr.cmdReserved 2).wf = false := by decide

theorem test_wf_takes_reserved_commands :
    (Instr.cmdReserved 0).wf = true ∧ (Instr.cmdReserved 0x102).wf = true ∧
      (Instr.cmdReserved 0x0000000100000001).wf = true := by decide

/-- The words of the register map, read and write (R81, R83), and of CMD (R84), written out as
`0x<WE>_<OFFSET>_<DATA>` without the underscores. -/
def registerWords : List (Transaction × Instr) :=
  [
    (0x0000000000000000000, .rdId),
    (0x1000123456789ABCDEF, .wrId 0x0123456789ABCDEF),
    (0x0080000000000000000, .rdStatus),
    (0x1080123456789ABCDEF, .wrStatus 0x0123456789ABCDEF),
    (0x0100000000000000000, .rdIrqen),
    (0x1100123456789ABCDEF, .wrIrqen 0x0123456789ABCDEF),
    (0x0180000000000000000, .rdLoss),
    (0x1180123456789ABCDEF, .wrLoss 0x0123456789ABCDEF),
    (0x0200000000000000000, .rdGamma),
    (0x1200123456789ABCDEF, .wrGamma 0x0123456789ABCDEF),
    (0x0280000000000000000, .rdPixIn),
    (0x1280123456789ABCDEF, .wrPixIn 0x0123456789ABCDEF),
    (0x0300000000000000000, .rdPixXy),
    (0x1300123456789ABCDEF, .wrPixXy 0x0123456789ABCDEF),
    (0x0380000000000000000, .rdPixOut),
    (0x1380123456789ABCDEF, .wrPixOut 0x0123456789ABCDEF),
    (0x0400000000000000000, .rdFrameMin),
    (0x1400123456789ABCDEF, .wrFrameMin 0x0123456789ABCDEF),
    (0x0480000000000000000, .rdFrameMax),
    (0x1480123456789ABCDEF, .wrFrameMax 0x0123456789ABCDEF),
    (0x0500000000000000000, .rdCmd),
    (0x1500000000000000001, .cmdPixel),
    (0x1500000000000000002, .cmdFrame),
    (0x1500000000000000102, .cmdReserved 0x102)]

def reservedWords : List (Transaction × Instr) :=
  [
    (0x0580000000000000000, .rdRsvd58),
    (0x1580123456789ABCDEF, .wrRsvd58 0x0123456789ABCDEF),
    (0x0600000000000000000, .rdRsvd60),
    (0x1600123456789ABCDEF, .wrRsvd60 0x0123456789ABCDEF),
    (0x0680000000000000000, .rdRsvd68),
    (0x1680123456789ABCDEF, .wrRsvd68 0x0123456789ABCDEF),
    (0x0700000000000000000, .rdRsvd70),
    (0x1700123456789ABCDEF, .wrRsvd70 0x0123456789ABCDEF),
    (0x0780000000000000000, .rdRsvd78),
    (0x1780123456789ABCDEF, .wrRsvd78 0x0123456789ABCDEF),
    (0x0800000000000000000, .rdRsvd80),
    (0x1800123456789ABCDEF, .wrRsvd80 0x0123456789ABCDEF),
    (0x0880000000000000000, .rdRsvd88),
    (0x1880123456789ABCDEF, .wrRsvd88 0x0123456789ABCDEF),
    (0x0900000000000000000, .rdRsvd90),
    (0x1900123456789ABCDEF, .wrRsvd90 0x0123456789ABCDEF),
    (0x0980000000000000000, .rdRsvd98),
    (0x1980123456789ABCDEF, .wrRsvd98 0x0123456789ABCDEF),
    (0x0A00000000000000000, .rdRsvdA0),
    (0x1A00123456789ABCDEF, .wrRsvdA0 0x0123456789ABCDEF),
    (0x0A80000000000000000, .rdRsvdA8),
    (0x1A80123456789ABCDEF, .wrRsvdA8 0x0123456789ABCDEF),
    (0x0B00000000000000000, .rdRsvdB0),
    (0x1B00123456789ABCDEF, .wrRsvdB0 0x0123456789ABCDEF),
    (0x0B80000000000000000, .rdRsvdB8),
    (0x1B80123456789ABCDEF, .wrRsvdB8 0x0123456789ABCDEF),
    (0x0C00000000000000000, .rdRsvdC0),
    (0x1C00123456789ABCDEF, .wrRsvdC0 0x0123456789ABCDEF),
    (0x0C80000000000000000, .rdRsvdC8),
    (0x1C80123456789ABCDEF, .wrRsvdC8 0x0123456789ABCDEF),
    (0x0D00000000000000000, .rdRsvdD0),
    (0x1D00123456789ABCDEF, .wrRsvdD0 0x0123456789ABCDEF),
    (0x0D80000000000000000, .rdRsvdD8),
    (0x1D80123456789ABCDEF, .wrRsvdD8 0x0123456789ABCDEF),
    (0x0E00000000000000000, .rdRsvdE0),
    (0x1E00123456789ABCDEF, .wrRsvdE0 0x0123456789ABCDEF),
    (0x0E80000000000000000, .rdRsvdE8),
    (0x1E80123456789ABCDEF, .wrRsvdE8 0x0123456789ABCDEF),
    (0x0F00000000000000000, .rdRsvdF0),
    (0x1F00123456789ABCDEF, .wrRsvdF0 0x0123456789ABCDEF),
    (0x0F80000000000000000, .rdRsvdF8),
    (0x1F80123456789ABCDEF, .wrRsvdF8 0x0123456789ABCDEF)]

theorem test_decode_registers :
    (registerWords.all fun w => (decode w.1).toOption == some w.2) = true := by decide

theorem test_decode_reserved :
    (reservedWords.all fun w => (decode w.1).toOption == some w.2) = true := by decide

/-- Together the two lists name every constructor: the encoder gives the same words back. -/
theorem test_encode_words :
    ((registerWords ++ reservedWords).all fun w => encode w.2 == w.1) = true := by decide

/-- The DATA of a read is ignored (R80); an offset that is no multiple of 8 is no transaction (R58). -/
theorem test_decode_corners :
    decode 0x00800000000000000FF = .ok .rdStatus ∧ decode 0x0010000000000000000 = .error (.unalignedOffset 1) ∧
      decode 0x1540000000000000001 = .error (.unalignedOffset 0x54) := ⟨rfl, rfl, rfl⟩

/-- The words of section 4 of the vectors: 0, bit 8 set, bit 32 set. -/
theorem test_decode_command_words :
    decode 0x1500000000000000000 = .ok (.cmdReserved 0) ∧
      decode 0x1500000000100000001 = .ok (.cmdReserved 0x100000001) := ⟨rfl, rfl⟩

/-! ### The datapath under the fixture FX of section 0 -/

/-- The fixture FX: not the production tables. Its power function is used at gamma 1 only, where POW_ID fixes
it (R7). -/
def FX : Params where
  linearizer := .power
  powRaw := fun q _ => q
  expandRows := fun L i => BitVec.ofNat 8 (min 255 (i.toNat <<< L.toNat))
  noise := fun r c => fdiv (f64 (16 * r.toNat + c.toNat)) 0x4070000000000000
  base := 0x1000

/-- FX in the LUT variant. -/
def FXL : Params := { FX with linearizer := .lut }

/-- Binary64 1.0. -/
def one : F64 := 0x3FF0000000000000

/-- Section 2.5: LIN at gamma 1. -/
theorem test_lin :
    ([
    (0, 0x0000000000000000),
    (1, 0x3F70101010101010),
    (51, 0x3FC999999999999A),
    (64, 0x3FD0101010101010),
    (127, 0x3FDFDFDFDFDFDFE0),
    (128, 0x3FE0101010101010),
    (200, 0x3FE9191919191919),
    (254, 0x3FEFDFDFDFDFDFE0),
    (255, 0x3FF0000000000000)].all
      fun t : Sample8 × F64 => linPower FX one t.1 == t.2) = true := by decide +kernel

/-- Section 2.5: the LUT variant gives the same bits. -/
theorem test_lut : lin FXL (lutFill FXL one) one 64 = 0x3FD0101010101010 := by decide +kernel

/-- Section 2.2: brackets, `(L, s8, lower, upper)`. -/
theorem test_bracket :
    ([
    (0, 0, 0, 1),
    (0, 1, 1, 2),
    (0, 254, 254, 255),
    (1, 127, 126, 128),
    (2, 254, 252, 255),
    (3, 100, 96, 104),
    (3, 254, 248, 255),
    (4, 127, 112, 128),
    (5, 100, 96, 128),
    (6, 127, 64, 128),
    (6, 128, 128, 192),
    (7, 127, 0, 128),
    (7, 128, 128, 255),
    (7, 254, 128, 255)].all
      fun t : Level × Sample8 × Sample8 × Sample8 => bracket FX t.1 t.2.1 == t.2.2) = true := by decide

/-- Section 2.2: the highest index read. -/
theorem test_max_index :
    ([0, 1, 2, 3, 4, 5, 6, 7].map maxIndex) = [255, 128, 64, 32, 16, 8, 4, 2] := by decide

/-- Section 2.4: the noise index, `(x, y, r, c)`. -/
theorem test_noise_index :
    ([
    (0x0000000F, 0x00000007, 7, 15),
    (0x0000001F, 0x00000007, 7, 15),
    (0x0000000F, 0x00000017, 7, 15),
    (0x00000011, 0xFFFFFFFD, 13, 1),
    (0xFFFFFFFF, 0xFFFFFFFF, 15, 15),
    (0xFFFFFFEF, 0x00000021, 1, 15),
    (0x7FFFFFFF, 0x80000000, 0, 15)].all
      fun t : BitVec 32 × BitVec 32 × BitVec 4 × BitVec 4 => noiseIndex ⟨t.1, t.2.1⟩ == t.2.2) = true := by decide

/-- Section 2.4: the noise value at (17, -3), 209/256. -/
theorem test_noise_value : noiseAt FX ⟨17, 0xFFFFFFFD⟩ = 0x3FEA200000000000 := by decide +kernel

/-- Section 2.6: POSITION, `(fs, fl, fu, pos)`. -/
theorem test_position :
    ([
    (0x3FE0000000000000, 0x3FE0000000000000, 0x3FE0000000000000, 0x7FF8000000000000),
    (0x3FE3333333333333, 0x3FE0000000000000, 0x3FE0000000000000, 0x7FF0000000000000),
    (0x3FD999999999999A, 0x3FE0000000000000, 0x3FE0000000000000, 0xFFF0000000000000),
    (0x3FE0000000000000, 0x3FE0000000000000, 0x3FE6666666666666, 0x0000000000000000),
    (0x3FE0000000000000, 0x3FE0000000000000, 0x3FD999999999999A, 0x8000000000000000),
    (0x3FE6666666666666, 0x3FE0000000000000, 0x3FE6666666666666, 0x3FF0000000000000),
    (0x3FD3333333333333, 0x3FE0000000000000, 0x3FD999999999999A, 0x4000000000000001)].all
      fun t : F64 × F64 × F64 × F64 => position t.1 t.2.1 t.2.2.1 == t.2.2.2) = true := by decide +kernel

/-- Section 2.6: SELECT between lower 10 and upper 20, `(pos, n, out)`. -/
theorem test_select :
    ([
    (0x7FF8000000000000, 0x0000000000000000, 10),
    (0x7FF0000000000000, 0x3FEFE00000000000, 20),
    (0xFFF0000000000000, 0x0000000000000000, 10),
    (0x0000000000000000, 0x0000000000000000, 10),
    (0x8000000000000000, 0x0000000000000000, 10),
    (0x3FF0000000000000, 0x3FEFE00000000000, 20),
    (0x4000000000000001, 0x3FE0000000000000, 20),
    (0x3FE0000000000000, 0x3FE0000000000000, 10),
    (0x3FE0000000000000, 0x3FDFC00000000000, 20)].all
      fun t : F64 × F64 × Sample8 => select t.1 t.2.1 10 20 == t.2.2) = true := by decide

/-- Section 2.7: CH at gamma 1, `(L, s8, x, y, out)`. -/
theorem test_channel :
    ([
    (7, 64, 0x0000000F, 0x00000007, 128),
    (7, 64, 0x00000000, 0x00000008, 0),
    (7, 200, 0x00000000, 0x00000000, 255),
    (7, 200, 0x00000000, 0x0000000A, 128),
    (7, 254, 0x0000000F, 0x0000000F, 128),
    (7, 254, 0x00000000, 0x00000000, 255),
    (7, 1, 0x00000000, 0x00000000, 128),
    (7, 128, 0x00000000, 0x00000000, 128),
    (6, 200, 0x00000000, 0x00000000, 255),
    (6, 200, 0x0000000F, 0x0000000F, 192),
    (5, 100, 0x00000004, 0x00000004, 96),
    (4, 37, 0x00000005, 0x00000002, 48),
    (3, 100, 0x00000011, 0xFFFFFFFD, 96),
    (3, 100, 0x00000000, 0x00000000, 104),
    (3, 100, 0x00000000, 0x00000008, 96),
    (2, 254, 0x0000000F, 0x0000000F, 252),
    (1, 127, 0x00000000, 0x0000000F, 126),
    (0, 77, 0x00000003, 0x00000003, 77)].all
      fun t : Level × Sample8 × BitVec 32 × BitVec 32 × Sample8 =>
        channel FX none t.1 one (noiseAt FX ⟨t.2.2.1, t.2.2.2.1⟩) (t.2.1 ++ 0#8) == t.2.2.2.2) = true := by
  decide +kernel

/-- Section 2.1: truncation drops the low byte; 255 is bypassed, 254 is not. -/
theorem test_truncation :
    channel FX none 7 one 0 0x00FF = 0 ∧ channel FX none 7 one 0 0xFEFF = 255 ∧
      channel FX none 7 one 0x3FEFE00000000000 0xFEFF = 128 ∧ channel FX none 7 one 0x3FEFE00000000000 0xFF00 = 255 := by
  decide +kernel

/-- Section 2.8: PIX at lossiness 7 and gamma 1, `(x, y, p, out)`. -/
theorem test_pixel :
    ([
    (14, 7, 0xFFFF800080004000, 0xFF808080),
    (15, 7, 0xFFFF8000C8004000, 0xFF80FF80),
    (14, 8, 0x80008000C8004000, 0x8080FF00),
    (15, 8, 0x0000800001000100, 0x00800000),
    (30, 24, 0x80008000C8004000, 0x8080FF00)].all
      fun t : BitVec 32 × BitVec 32 × SrcPixel × DstPixel =>
        pix FX none 7 one ⟨t.1, t.2.1⟩ t.2.2.1 == t.2.2.2) = true := by decide +kernel

/-- Section 2.8, first row: lossiness 0 gives the high bytes. -/
theorem test_pixel_identity : pix FX none 0 one ⟨5, 9⟩ 0xFF008042000112FF = 0xFF800012 := by decide +kernel

/-! ### Register transactions, one step each -/

/-- A capable source is bound. -/
def bound : State := { State.reset with srcPresent := true, srcHp := true }

/-- Section 3.6: a frame of 2 by 2 coordinates runs. -/
def running : State :=
  { bound with loss := 7, frameMax := 0x0000000200000002, pending := rectangle 0 0x0000000200000002 }

/-- What a next state holds. -/
def after {α : Type} (r : Result) (f : State → α) : Option α :=
  match r with
  | .next t => some (f t)
  | .fault _ => none
  | .refused _ => none

/-- A state with the STATUS bits DONE, ERR, REJ and the code, its source bound. -/
def withStatus (done err rej : Bool) (code : BitVec 4) : State :=
  { bound with done := done, err := err, rej := rej, errCode := code }

/-- Section 3.1: the clamp of LOSS. -/
theorem test_wr_loss :
    ([(0x0, 0), (0x3, 3), (0x7, 7), (0x8, 7), (0xC, 7), (0x3E8, 7), (0x0000000100000003, 7),
      (0x7FFFFFFFFFFFFFFF, 7), (0xFFFFFFFFFFFFFFFF, 0), (0xFFFFFFFFFFFFFFFB, 0), (0x8000000000000000, 0)].all
      fun t : Word × Level => after (exec (.wrLoss t.1) State.reset) State.loss == some t.2) = true := by decide

/-- Section 3.2: the replacement of GAMMA. -/
theorem test_wr_gamma :
    ([(0x3FF0000000000000, 0x3FF0000000000000), (0x3FFCCCCCCCCCCCCD, 0x3FFCCCCCCCCCCCCD),
      (0x0000000000000001, 0x0000000000000001), (0x7FF0000000000000, 0x7FF0000000000000),
      (0x0000000000000000, 0x400199999999999A), (0x8000000000000000, 0x400199999999999A),
      (0xBFF0000000000000, 0x400199999999999A), (0xFFF0000000000000, 0x400199999999999A),
      (0x7FF8000000000000, 0x400199999999999A), (0xFFF8000000000000, 0x400199999999999A),
      (0x7FF0000000000001, 0x400199999999999A)].all
      fun t : Word × F64 => after (exec (.wrGamma t.1) State.reset) State.gamma == some t.2) = true := by decide

/-- Section 3.3: RD STATUS after reset, by the inputs. -/
theorem test_rd_status :
    after (exec .rdStatus State.reset) State.resp = some (some 0x0) ∧
      after (exec .rdStatus bound) State.resp = some (some 0x30000) ∧
      after (exec .rdStatus { bound with srcHp := false }) State.resp = some (some 0x10000) ∧
      after (exec .rdStatus running) State.resp = some (some 0x30001) := by decide

/-- Section 3.3: the clears of STATUS, `(DONE ERR REJ ERRCODE) DATA -> STATUS`. -/
theorem test_wr_status :
    after (exec (.wrStatus 0x4) (withStatus true true false 2)) statusWord = some 0x30002 ∧
      after (exec (.wrStatus 0xE) (withStatus true true true 2)) statusWord = some 0x30000 ∧
      after (exec (.wrStatus 0x8) (withStatus true true true 2)) statusWord = some 0x30206 ∧
      after (exec (.wrStatus 0x1) (withStatus true true true 2)) statusWord = some 0x3020E ∧
      after (exec (.wrStatus 0xFFFFFFFFFFFFFFFF) (withStatus true true true 2)) statusWord = some 0x30000 ∧
      after (exec (.wrStatus 0x2) running) statusWord = some 0x30001 := by decide

/-- Sections 3.4 and 3.5: IRQEN keeps three bits, and the line follows. -/
theorem test_wr_irqen :
    after (exec (.wrIrqen 0xFF) State.reset) State.irqen = some 7 ∧
      after (exec (.wrIrqen 0x1) (withStatus true false false 0)) irq = some true ∧
      after (exec (.wrIrqen 0x1) (withStatus false true false 1)) irq = some false ∧
      after (exec (.wrIrqen 0x6) (withStatus true true true 1)) irq = some true ∧
      after (exec (.wrIrqen 0x7) (withStatus false false false 0)) irq = some false := by decide

/-- Section 3.5: the reads. -/
theorem test_reads :
    after (exec .rdIrqen { State.reset with irqen := 7 }) State.resp = some (some 0x7) ∧
      after (exec .rdLoss running) State.resp = some (some 0x7) ∧
      after (exec .rdGamma State.reset) State.resp = some (some 0x400199999999999A) ∧
      after (exec .rdPixIn { State.reset with pixIn := 0x0123456789ABCDEF }) State.resp
        = some (some 0x0123456789ABCDEF) ∧
      after (exec .rdPixXy { State.reset with pixXy := 0x00000002FFFFFFFF }) State.resp
        = some (some 0x00000002FFFFFFFF) ∧
      after (exec .rdPixOut { State.reset with pixOut := 0xFF800012 }) State.resp
        = some (some 0x00000000FF800012) ∧
      after (exec .rdFrameMin { State.reset with frameMin := 0xFFFFFFFFFFFFFFFF }) State.resp
        = some (some 0xFFFFFFFFFFFFFFFF) ∧
      after (exec .rdFrameMax running) State.resp = some (some 0x0000000200000002) ∧
      after (exec .rdCmd running) State.resp = some (some 0x0) := by decide

/-- Section 3.5: the ID words. -/
theorem test_rd_id : idWord FX = 0x0000000000000001 ∧ idWord FXL = 0x0000000000000101 := by decide

/-- Section 3.5: the unguarded writes. -/
theorem test_operand_writes :
    after (exec (.wrPixIn 0x1) running) State.pixIn = some 0x1 ∧
      after (exec (.wrPixXy 0xFFFFFFFD00000011) State.reset) (fun t => coordOf t.pixXy)
        = some ⟨17, 0xFFFFFFFD⟩ ∧
      after (exec (.wrFrameMin 0xFFFFFFFFFFFFFFFF) State.reset) (fun t => coordOf t.frameMin)
        = some ⟨0xFFFFFFFF, 0xFFFFFFFF⟩ ∧
      after (exec (.wrFrameMax 0x0000000200000002) State.reset) (fun t => coordOf t.frameMax) = some ⟨2, 2⟩ := by
  decide

/-- Section 3.5: the ignored writes and the reserved slots. -/
theorem test_ignored :
    exec (.wrId 0xFFFF) State.reset = .next State.reset ∧ exec (.wrPixOut 5) State.reset = .next State.reset ∧
      exec (.wrRsvd80 0x1234) State.reset = .next State.reset ∧
      after (exec .rdRsvd58 State.reset) State.resp = some (some 0) ∧
      after (exec .rdRsvdF8 State.reset) State.resp = some (some 0) := ⟨rfl, rfl, rfl, rfl, rfl⟩

/-- Section 3.6: a running frame refuses the guarded writes, CMD 0x7 without an error. -/
theorem test_busy_guard :
    ([Instr.wrLoss 3, .wrGamma 0x3FF0000000000000, .wrFrameMin 1, .wrFrameMax 0, .cmdFrame, .cmdReserved 7,
      .cmdPixel].all fun i => after (exec i running) (fun t => (statusWord t, t.loss, t.gamma, t.frameMin, t.frameMax, t.pixOut))
        == some (0x30009, 7, 0x400199999999999A, 0, 0x0000000200000002, 0)) = true := by decide

/-! ### Commands, the sequencer, reset -/

/-- Section 4: the outcomes of a reserved command word. -/
theorem test_reserved_command :
    after (exec (.cmdReserved 0) State.reset) statusWord = some 0x304 ∧
      after (exec (.cmdReserved 7) { State.reset with err := true, errCode := 1 }) statusWord = some 0x304 := by
  decide

/-- Section 4: the outcomes of FRAME. -/
theorem test_frame_outcomes :
    after (exec .cmdFrame { State.reset with srcHp := true }) statusWord = some 0x20104 ∧
      after (exec .cmdFrame State.reset) statusWord = some 0x104 ∧
      after (exec .cmdFrame { State.reset with srcPresent := true }) statusWord = some 0x10204 ∧
      after (exec .cmdFrame bound) statusWord = some 0x30002 ∧
      after (exec .cmdFrame { bound with done := true, frameMax := 0x0000000200000002 }) statusWord
        = some 0x30001 := by decide

/-- Section 4: the step counts of four rectangles. -/
theorem test_rectangles :
    (rectangle 0x000000070000000E 0x0000000900000010).length = 4 ∧
      (rectangle 0 0x0000000100000001).length = 1 ∧
      (rectangle 0x0000000500000005 0x0000000900000005).length = 0 ∧
      rectangle 0xFFFFFFFEFFFFFFFE 0 = [⟨0xFFFFFFFE, 0xFFFFFFFE⟩, ⟨0xFFFFFFFF, 0xFFFFFFFE⟩,
        ⟨0xFFFFFFFE, 0xFFFFFFFF⟩, ⟨0xFFFFFFFF, 0xFFFFFFFF⟩] := by decide

/-- Program P1: PIXEL at lossiness 0 writes PIX_OUT and nothing of STATUS. -/
theorem test_pixel_command :
    (pixelCommand FX { State.reset with pixIn := 0xFF008042000112FF, pixXy := 0x0000000900000005, lut := none }).pixOut
      = 0xFF800012 := by decide +kernel

/-- Programs P2 and P4: one sequencer step writes one pixel of the frame; the last one sets DONE. -/
theorem test_sequencer_step :
    let s := { bound with
      loss := 7, gamma := one, lut := none, frameMin := 0x000000070000000E, frameMax := 0x0000000900000010
      pending := [⟨14, 7⟩, ⟨15, 7⟩], src := [(coordKey ⟨14, 7⟩, 0xFFFF800080004000), (coordKey ⟨15, 7⟩, 0xFFFF8000C8004000)] }
    (sequencerStep FX 1 s).dst = [(coordKey ⟨15, 7⟩, 0xFF80FF80)] ∧ (sequencerStep FX 1 s).pending = [⟨14, 7⟩] ∧
      statusWord (sequencerStep FX 1 s) = 0x30001 ∧
      statusWord (sequencerStep FX 0 { s with pending := [⟨15, 7⟩] }) = 0x30002 := by decide +kernel

/-- Section 5: FRAME right after reset completes at once, and reset ends a frame with DONE 0. -/
theorem test_reset :
    after (runEvent .reset running) statusWord = some 0x30000 ∧
      after (runEvent .reset running) State.gamma = some 0x400199999999999A ∧
      after (runEvent .reset running) irq = some false := by decide

/-- Program P3, line 15: the platform binds a source. -/
theorem test_inputs :
    after (runEvent (.srcPresent true) State.reset) statusWord = some 0x10000 ∧
      after (runEvent (.srcHp true) State.reset) statusWord = some 0x20000 := by decide

/-- R236, R240: in a frame a change of an input is a breach, driving a 1 that is 1 already is none. -/
theorem test_breach :
    after (runEvent (.srcPresent false) running) State.breach = some (some 0) ∧
      after (runEvent (.srcPresent true) { running with srcPresent := false }) State.breach = some (some 0) ∧
      after (runEvent (.srcPresent true) running) State.breach = some none ∧
      after (runEvent (.srcHp false) State.reset) State.breach = some none := by decide

/-- R57: byte 0 of a slot is bits 7:0; the register block of FX begins at 0x1000. -/
theorem test_bridge :
    routeBus FX ⟨true, 0x1018, [7, 0, 0, 0, 0, 0, 0, 0x80]⟩ = .port (Transaction.mk true 0x18 0x8000000000000007) ∧
      routeBus FX ⟨false, 0x10F8, [0, 0, 0, 0, 0, 0, 0, 0]⟩ = .port (Transaction.mk false 0xF8 0) ∧
      routeBus FX ⟨true, 0x1018, [7, 0, 0, 0]⟩ = .illFormed ∧ routeBus FX ⟨false, 0x1100, [0]⟩ = .elsewhere ∧
      busReply { State.reset with resp := some 0x0123456789ABCDEF }
        = some [0xEF, 0xCD, 0xAB, 0x89, 0x67, 0x45, 0x23, 0x01] := by decide

/-- The table's words run as the first instruction after reset (log entry 17). -/
theorem test_first_instruction :
    step (State.reset.withFetchWord 80 0x0180000000000000000) = exec .rdLoss State.reset ∧
      step (State.reset.withFetchWord 80 0x1500000000000000002) = exec .cmdFrame State.reset := ⟨rfl, rfl⟩

/-! ### Witnesses: states and operands that meet the hypotheses of each statement -/

/-- A bound block with a 2 by 2 rectangle, no frame running. -/
def ready : State := { bound with frameMax := 0x0000000200000002 }

/-- The frame of `ready`, just accepted. -/
def started : State := startFrame ready

theorem witness_DecodeOfEncode :
    (Instr.wrLoss 0xFFFFFFFFFFFFFFFF).wf = true ∧ (Instr.cmdReserved 0).wf = true ∧
      (Instr.cmdReserved 3).wf = true ∧ Instr.cmdFrame.wf = true := by decide

theorem witness_DecodeTotalOnAlignedOffsets :
    (Transaction.offset 0x1F80000000000000000).extractLsb' 0 3 = 0 ∧
      (Transaction.offset 0x1F90000000000000000).extractLsb' 0 3 ≠ 0 := by decide

theorem witness_EncodeOfDecode :
    (decode 0x0180000000000000005 = .ok .rdLoss ∧ Transaction.we 0x0180000000000000005 = false) ∧
      (decode 0x1180000000000000005 = .ok (.wrLoss 5) ∧ Transaction.we 0x1180000000000000005 = true) :=
  ⟨⟨rfl, rfl⟩, rfl, rfl⟩

theorem witness_CommandWords :
    ((0x01 : Word).extractLsb' 8 56 = 0 ∧ (0x01 : Word).extractLsb' 0 8 = 0x01) ∧
      ((0x02 : Word).extractLsb' 8 56 = 0 ∧ (0x02 : Word).extractLsb' 0 8 = 0x02) ∧
      (0x101 : Word).extractLsb' 8 56 ≠ 0 ∧ (0x00 : Word).extractLsb' 0 8 ≠ 0x01 := by decide

theorem witness_StepRunsDecodedTransaction :
    (issue 0x0080000000000000000 State.reset).schedule = .transaction 0x0080000000000000000 :: [] ∧
      decode 0x0080000000000000000 = .ok .rdStatus := ⟨rfl, rfl⟩

theorem witness_UnalignedTransactionRefused :
    (issue 0x0090000000000000000 State.reset).schedule = .transaction 0x0090000000000000000 :: [] ∧
      (Transaction.offset 0x0090000000000000000).extractLsb' 0 3 ≠ 0 := ⟨rfl, by decide⟩

/-- The first and the last slot; two bytes across the block's beginning, its last byte, eight bytes off a slot;
the bytes just outside. -/
theorem witness_BridgeCarriesWholeSlots :
    let touches (a : BusAccess) : Prop :=
      0 < a.bytes.length ∧ FX.base < a.addr + a.bytes.length ∧ a.addr < FX.base + 256
    let slot (a : BusAccess) : Prop := ∃ k, k < 32 ∧ a.addr = FX.base + 8 * k ∧ a.bytes.length = 8
    (slot ⟨true, 0x1000, List.replicate 8 1⟩ ∧ slot ⟨false, 0x10F8, List.replicate 8 0⟩) ∧
      (touches ⟨true, 0x0FFF, [1, 2]⟩ ∧ ¬ slot ⟨true, 0x0FFF, [1, 2]⟩) ∧
      (touches ⟨false, 0x10FF, [0]⟩ ∧ ¬ slot ⟨false, 0x10FF, [0]⟩) ∧
      (touches ⟨true, 0x1004, List.replicate 8 1⟩ ∧ ¬ slot ⟨true, 0x1004, List.replicate 8 1⟩) ∧
      ¬ touches ⟨true, 0x0FFF, [1]⟩ ∧ ¬ touches ⟨true, 0x1100, [1]⟩ := by decide

/-- A bus access to the LOSS slot of the machine's own block, and a response. -/
theorem witness_BridgeCarriesWholeSlots_step :
    ({ State.reset with schedule := [.bus ⟨true, Config.params.base + 24, List.replicate 8 1⟩] } : State).schedule
        = .bus ⟨true, Config.params.base + 24, List.replicate 8 1⟩ :: [] ∧
      ({ State.reset with resp := some 0x0123456789ABCDEF } : State).resp = some 0x0123456789ABCDEF := ⟨rfl, rfl⟩

theorem witness_LossWriteClamps : busy State.reset = false ∧ busy running = true := by decide

theorem witness_GammaWriteReplacesAndRefills : busy State.reset = false ∧ busy running = true := by decide

theorem witness_FrameCornerWrites : busy State.reset = false ∧ busy running = true := by decide

theorem witness_ReadOnlyWritesIgnored :
    Instr.wrId 0xFFFF ∈ readOnlyWrites 0xFFFF ∧ Instr.wrPixOut 5 ∈ readOnlyWrites 5 := by decide

theorem witness_ReservedSlotsReadZeroIgnoreWrites :
    Instr.rdRsvd58 ∈ reservedReads ∧ Instr.rdRsvdF8 ∈ reservedReads ∧ Instr.wrRsvd58 1 ∈ reservedWrites 1 ∧
      Instr.wrRsvdF8 1 ∈ reservedWrites 1 ∧ reservedReads.length = 21 ∧ (reservedWrites 1).length = 21 := by decide

theorem witness_BusyGuard :
    (isGuarded (.wrLoss 3) = true ∧ busy running = true) ∧
      (isGuarded .cmdFrame = true ∧ busy running = true) ∧
      (¬ (isGuarded (.wrPixIn 1) = true ∧ busy running = true) ∧
        exec (.wrPixIn 1) running = .next { running with pixIn := 1 } ∧ running.rej = false) :=
  ⟨by decide, by decide, by decide, rfl, rfl⟩

theorem witness_PixelCommandDithersOnePixel : busy State.reset = false := by decide

/-- No source, no capability, and a capable source. -/
theorem witness_FrameCommandStartsRectangle :
    (busy State.reset = false ∧ State.reset.srcPresent = false) ∧
      (busy { bound with srcHp := false } = false ∧ { bound with srcHp := false }.srcPresent = true ∧
        { bound with srcHp := false }.srcHp = false) ∧
      (busy ready = false ∧ ready.srcPresent = true ∧ ready.srcHp = true ∧ ready.overlap = false) := by decide

theorem witness_AcceptedFrameStartsProgress :
    busy ready = false ∧ exec .cmdFrame ready = .next started ∧ busy started = true := ⟨rfl, rfl, rfl⟩

theorem witness_OverlappingFrameRefused :
    busy { ready with overlap := true } = false ∧ { ready with overlap := true }.srcPresent = true ∧
      { ready with overlap := true }.srcHp = true ∧ { ready with overlap := true }.overlap = true ∧
      rectangle { ready with overlap := true }.frameMin { ready with overlap := true }.frameMax ≠ [] := by decide

theorem witness_ReservedCommandFails : busy State.reset = false ∧ busy running = true := by decide

/-- One state and word for each outcome: refused, three reserved words, no source, no capability, run. -/
theorem witness_CommandOutcomePriority :
    (running.overlap = false ∧ busy running = true) ∧
      (State.reset.overlap = false ∧ busy State.reset = false ∧ (0x102 : Word).extractLsb' 8 56 ≠ 0 ∧
        ((0x0 : Word).extractLsb' 0 8 ≠ 0x01 ∧ (0x0 : Word).extractLsb' 0 8 ≠ 0x02)) ∧
      ((0x2 : Word).extractLsb' 8 56 = 0 ∧ (0x2 : Word).extractLsb' 0 8 = 0x02 ∧ State.reset.srcPresent = false) ∧
      (busy { bound with srcHp := false } = false ∧ { bound with srcHp := false }.srcPresent = true ∧
        { bound with srcHp := false }.srcHp = false) ∧
      (busy ready = false ∧ ready.srcPresent = true ∧ ready.srcHp = true ∧ ready.overlap = false ∧
        (0x1 : Word).extractLsb' 8 56 = 0 ∧ (0x1 : Word).extractLsb' 0 8 = 0x01) := by decide

/-- One transaction for each of the six clauses. -/
theorem witness_FlagSources :
    (after (exec .cmdFrame bound) (fun t => (bound.done, t.done)) = some (false, true)) ∧
      (after (exec (.cmdReserved 0) bound) (fun t => (bound.err, t.err)) = some (false, true)) ∧
      (after (exec (.wrLoss 1) running) (fun t => (running.rej, t.rej)) = some (false, true)) ∧
      (after (exec .cmdFrame { ready with done := true }) State.done = some false) ∧
      (after (exec (.wrStatus 0xE) (withStatus true true true 2)) (fun t => (t.done, t.err, t.rej))
        = some (false, false, false)) := by decide

theorem witness_RegisterFrame : exec (.wrPixXy 5) running = .next { running with pixXy := 5 } := rfl

theorem witness_TransactionsLeaveImages : exec .cmdFrame ready = .next started := rfl

theorem witness_IdleBlockKeepsState : State.reset.schedule = [] ∧ busy State.reset = false := ⟨rfl, rfl⟩

/-- An idle block, and an input of a running frame that is 1 already. -/
theorem witness_InputsFollowPlatform :
    busy State.reset = false ∧ (busy running = true ∧ running.srcPresent = true ∧ running.srcHp = true) := by decide

/-- A source pixel in the frame, one outside it, an idle block and a running frame. -/
theorem witness_SourceAndOverlapEvents :
    (busy running = true ∧ inFrame running ⟨1, 1⟩ = true ∧ inFrame running ⟨2, 1⟩ = false) ∧
      (⟨2, 1⟩ : Coord) ≠ ⟨1, 1⟩ ∧ busy State.reset = false := by decide

theorem witness_RunningFrameKeepsItsOperands :
    busy (issue 0x1180000000000000003 running) = true ∧
      (nextEvent (issue 0x1180000000000000003 running)).1 ≠ .reset ∧
      step (issue 0x1180000000000000003 running) = .next { running with rej := true } := ⟨rfl, by decide, rfl⟩

theorem witness_SequencerStepWritesOnePixel :
    busy running = true ∧ running.breach = none ∧ running.kept = [] ∧ (⟨0, 0⟩ : Coord) ∈ running.pending ∧
      (⟨1, 1⟩ : Coord) ∈ running.pending := by decide

/-- The step that ends a frame meets the same premises. -/
theorem witness_SequencerStepWritesOnePixel_last :
    let s := { running with pending := [⟨1, 1⟩], preFrame := memWrite [] (coordKey ⟨1, 1⟩) 5 }
    busy s = true ∧ s.breach = none ∧ s.kept = [] ∧ picked s 0 = some ⟨1, 1⟩ ∧
      busy (sequencerStep Config.params 0 s) = false := ⟨rfl, rfl, rfl, rfl, rfl⟩

theorem witness_FrameCompletesAfterItsCoordinates :
    running.schedule = [] ∧ busy running = true ∧ 3 < running.pending.length := ⟨rfl, rfl, by decide⟩

/-- An accepted frame has made no progress yet. -/
theorem started_progress : PendingInFrame started ∧ FrameProgress started := by
  refine ⟨⟨rectangle_nodup _ _, fun c hc => (mem_rectangle ready c).1 hc⟩, rfl, rfl, fun c hc => ?_⟩
  have h : c ∈ started.pending := (mem_rectangle ready c).2 hc
  rw [if_pos h]
  rfl

/-- The first step of the frame. -/
theorem witness_StepKeepsFrameProgress :
    let s := { started with schedule := [.sequencer 2] }
    busy s = true ∧ PendingInFrame s ∧ FrameProgress s ∧ dutiful s (nextEvent s).1 = true ∧
      (nextEvent s).1 ≠ .reset ∧ step s = .next (sequencerStep Config.params 2 started) :=
  ⟨rfl, started_progress.1, started_progress.2, rfl, by decide, rfl⟩

/-- A FRAME, a refused write, and the four steps of the rectangle. -/
theorem witness_FrameResultForEveryOrder :
    let es : List Event := [.sequencer 3, .transaction 0x1180000000000000003, .sequencer 0, .sequencer 1]
    let s := { ready with schedule := .transaction 0x1500000000000000002 :: (es ++ [.sequencer 0]) }
    busy s = false ∧ s.srcPresent = true ∧ s.srcHp = true ∧ s.overlap = false ∧
      decode 0x1500000000000000002 = .ok .cmdFrame ∧
      s.schedule = .transaction 0x1500000000000000002 :: (es ++ [.sequencer 0]) ∧
      (∀ e ∈ es, isFrameEvent e = true) ∧
      (es.filter isSequencerStep).length + 1 = (rectangle s.frameMin s.frameMax).length :=
  ⟨rfl, rfl, rfl, rfl, rfl, rfl, by decide, by decide⟩

/-- A running frame, each of the four breaches, and the frame after one: a pending coordinate whose host write is
kept and one with none. -/
theorem witness_BreachFreesUnwrittenPixels :
    let s := { running with breach := some 0, kept := [⟨1, 1⟩], schedule := [.sequencer 0] }
    busy running = true ∧ (false && running.srcPresent) = false ∧
      (true && ({ running with srcHp := false } : State).srcHp) = false ∧ inFrame running ⟨1, 1⟩ = true ∧
      (busy s = true ∧ (nextEvent s).1 ≠ .reset ∧ picked s 0 = some ⟨0, 0⟩ ∧ (⟨0, 0⟩ : Coord) ∉ s.kept ∧
          picked s 3 = some ⟨1, 1⟩ ∧ (⟨1, 1⟩ : Coord) ∈ s.kept) := by decide

/-- The step of that frame, which goes on. -/
theorem witness_BreachFreesUnwrittenPixels_step :
    let u := { running with breach := some 0 }
    step { u with schedule := [.srcSideEffect] } = .next (breachDuty u) ∧ busy (breachDuty u) = true := ⟨rfl, rfl⟩

/-- A frame of two coordinates, the first of them written. -/
def halfway : State :=
  { bound with
    frameMax := 0x0000000100000002
    pending := [⟨1, 0⟩]
    dst := memWrite [] (coordKey ⟨0, 0⟩) (pixOf Config.params bound ⟨0, 0⟩ (srcAt [] ⟨0, 0⟩)) }

theorem halfway_progress : FrameProgress halfway := by
  refine ⟨rfl, rfl, fun c hc => ?_⟩
  have hm : c ∈ rectangle halfway.frameMin halfway.frameMax := (mem_rectangle halfway c).2 hc
  have hr : rectangle halfway.frameMin halfway.frameMax = [⟨0, 0⟩, ⟨1, 0⟩] := by decide
  rw [hr] at hm
  simp only [List.mem_cons, List.not_mem_nil, or_false] at hm
  rcases hm with rfl | rfl
  · exact (dstAt_write_same _ _ _).trans (if_neg (by decide)).symm
  · exact (dstAt_write_other _ _ _ _ (by decide)).trans (if_pos (by decide)).symm

/-- A coordinate of the frame still pending, one written, and one outside the frame. -/
theorem witness_HostReadRace :
    (races running ⟨1, 1⟩ = true ∧ (⟨1, 1⟩ : Coord) ∈ running.pending) ∧
      (races halfway ⟨0, 0⟩ = true ∧ (⟨0, 0⟩ : Coord) ∉ halfway.pending ∧ FrameProgress halfway) ∧
      races running ⟨2, 0⟩ = false ∧ races State.reset ⟨0, 0⟩ = false :=
  ⟨by decide, ⟨by decide, by decide, halfway_progress⟩, by decide, by decide⟩

/-- A step of a running frame that goes on. -/
theorem witness_HostReadRace_step :
    let s := { started with schedule := [.sequencer 2] }
    busy s = true ∧ (nextEvent s).1 ≠ .reset ∧ step s = .next (sequencerStep Config.params 2 started) ∧
      busy (sequencerStep Config.params 2 started) = true := ⟨rfl, by decide, rfl, rfl⟩

/-- A pending coordinate, a written one, one outside the frame; and a frame with a kept host write at (1, 1)
whose next step takes another coordinate, and one whose next step takes that one. -/
theorem witness_HostWriteRace :
    let s := hostWrite ⟨1, 1⟩ 5 true started
    (races running ⟨0, 0⟩ = true ∧ (⟨0, 0⟩ : Coord) ∈ running.pending) ∧
      (races halfway ⟨0, 0⟩ = true ∧ (⟨0, 0⟩ : Coord) ∉ halfway.pending) ∧ races running ⟨0, 2⟩ = false ∧
      (PendingInFrame s ∧ (⟨1, 1⟩ : Coord) ∈ s.pending ∧ (⟨1, 1⟩ : Coord) ∈ s.kept ∧
          (nextEvent { s with schedule := [.sequencer 0] }).1 = .sequencer 0 ∧ picked s 0 = some ⟨0, 0⟩ ∧
          (nextEvent { s with schedule := [.sequencer 3] }).1 = .sequencer 3 ∧ picked s 3 = some ⟨1, 1⟩) :=
  ⟨by decide, by decide, by decide, started_progress.1, by decide, by decide, rfl, rfl, rfl, rfl⟩

/-- The invariant holds right after reset and in a running frame, and both step. -/
theorem witness_StepKeepsInvariant :
    (StateInv State.reset ∧ step State.reset = .next State.reset) ∧
      (StateInv started ∧ step { started with schedule := [.reset] } = .next (resetBlock started)) := by
  refine ⟨⟨⟨⟨by decide, by decide⟩, ?_, rfl, ⟨List.nodup_nil, fun c h => nomatch h⟩, ⟨rfl, rfl, rfl⟩,
    fun _ => ⟨rfl, rfl, rfl⟩⟩, rfl⟩, ⟨⟨by decide, by decide⟩, ?_, rfl, started_progress.1, ⟨rfl, rfl, rfl⟩,
    fun h => nomatch h⟩, rfl⟩
  · exact (by decide : fgt gammaDefault fzero = true)
  · exact (by decide : fgt gammaDefault fzero = true)

/-- Gamma 2.2, the smallest positive gamma, and the ends of [0, 1]. -/
theorem witness_PowerFunctionProperties :
    fgt gammaDefault fzero = true ∧ fgt 0x0000000000000001 fzero = true ∧ fgt 0x7FF0000000000000 fzero = true ∧
      inUnit 0 = true ∧ inUnit one = true := by decide

theorem witness_WhiteIsBypassed :
    (0xFF00 : Sample16).extractLsb' 8 8 = 255 ∧ (0xFFFF : Sample16).extractLsb' 8 8 = 255 := by decide

theorem witness_BracketSelector : (0 : Sample8) ≠ 255 ∧ (254 : Sample8) ≠ 255 := by decide

/-- FX and a table that differs from it above `M(7) = 2` only. -/
theorem witness_BracketIndexRange :
    (254 : Sample8) ≠ 255 ∧ ∀ i, i ≤ maxIndex 7 →
      expand FX 7 i = expand { FX with expandRows := fun L i => if 2 < i.toNat then 9 else FX.expandRows L i } 7 i := by
  decide

theorem witness_LinearizerEndpoints : fgt gammaDefault fzero = true := by decide

theorem witness_PositionOverZero :
    (fsub 0x3FE0000000000000 0x3FE0000000000000 = 0x0000000000000000) ∧
      fgt (fsub 0x3FE3333333333333 0x3FE0000000000000) fzero = true ∧
      fgt fzero (fsub 0x3FD999999999999A 0x3FE0000000000000) = true := by decide +kernel

theorem witness_ComparatorIsStrict :
    fgt 0x3FE0000000000000 0x3FDFC00000000000 = true ∧ fgt 0x3FE0000000000000 0x3FE0000000000000 = false ∧
      isNan 0x7FF8000000000000 = true ∧ (isNan 0x3FEFE00000000000 = false ∧ isInf 0x3FEFE00000000000 = false) ∧
      fle fzero 0 = true := by decide

theorem witness_PixelDependsOnCoordinateMod16 :
    (14 : BitVec 32).toInt % 16 = (30 : BitVec 32).toInt % 16 ∧
      (0xFFFFFFFF : BitVec 32).toInt % 16 = (15 : BitVec 32).toInt % 16 := by decide

theorem witness_LossinessZeroIsIdentity :
    fgt gammaDefault fzero = true ∧ fgt 0x7FF0000000000000 fzero = true ∧ fle fzero 0 = true ∧
      fle fzero 0x3FEFE00000000000 = true := by decide

theorem witness_OutputOnGrid : RowTop FX 7 ∧ RowTop FX 0 := by
  exact ⟨⟨2, by decide, by decide⟩, ⟨255, by decide, by decide⟩⟩

/-- FX at level 7, gamma 1, and two samples in order. -/
theorem witness_DitherIsMonotone :
    RowMono FX 7 ∧ RowBrackets FX 7 ∧ fgt one fzero = true ∧ PowMono FX one ∧ (0x4000 : Sample16) ≤ 0x4100 := by
  refine ⟨?_, ?_, by decide, fun q r _ _ h => ?_, by decide⟩
  · unfold RowMono; decide
  · unfold RowBrackets; decide +kernel
  · have hid : ∀ q, pow FX q one = q := by
      intro q
      unfold pow
      split
      · next hq => exact hq.symm
      · rfl
    rw [hid, hid]
    exact h

end Sys2Proof.Tests
end

section
/-! PROOFS. The power function: one lemma for each property R7 requires of it, and O46. -/

namespace Sys2Proof.Machine

open Sys2Proof

theorem inUnit_fzero : inUnit fzero = true := by decide

theorem inUnit_fone : inUnit fone = true := by decide

/-- POW_ONE of R7. -/
@[simp] theorem pow_fone_left (P : Params) (g : F64) : pow P fone g = fone := if_pos rfl

/-- POW_ID of R7. -/
@[simp] theorem pow_fone_right (P : Params) (q : F64) : pow P q fone = q := by
  by_cases hq : q = fone
  · rw [hq, pow_fone_left]
  · rw [pow, if_neg hq, if_pos rfl]

/-- POW_ZERO of R7. -/
theorem pow_fzero_left (P : Params) {g : F64} (hg : fgt g fzero = true) : pow P fzero g = fzero := by
  have hne : fzero ≠ fone := by decide
  by_cases h1 : g = fone
  · rw [h1, pow_fone_right]
  · rw [pow, if_neg hne, if_neg h1, if_pos (by simp [hg])]

/-- Away from the operands whose result R7 fixes, `pow` is the open function, clamped to `+0.0` where that
leaves [0, 1]. -/
theorem pow_of_open (P : Params) {q g : F64} (hq : inUnit q = true) (hg : fgt g fzero = true) (h1 : q ≠ fone)
    (h0 : q ≠ fzero) (hg1 : g ≠ fone) :
    pow P q g = if inUnit (P.powRaw q g) then P.powRaw q g else fzero := by
  cases hr : inUnit (P.powRaw q g) <;> simp [pow, h1, h0, hg1, hq, hg, hr]

/-- POW_RANGE of R7. -/
theorem inUnit_pow (P : Params) {q g : F64} (hq : inUnit q = true) (hg : fgt g fzero = true) :
    inUnit (pow P q g) = true := by
  by_cases h1 : q = fone
  · rw [h1, pow_fone_left, inUnit_fone]
  by_cases hg1 : g = fone
  · rw [hg1, pow_fone_right, hq]
  by_cases h0 : q = fzero
  · rw [h0, pow_fzero_left P hg, inUnit_fzero]
  rw [pow_of_open P hq hg h1 h0 hg1]
  split
  · assumption
  · exact inUnit_fzero

end Sys2Proof.Machine

namespace Sys2Proof

/-- Settles O46: `pow` lays each of the four properties of R7 over the open function. -/
theorem powerFunctionProperties : Obligations.PowerFunctionProperties := fun P =>
  ⟨fun _ hg => Machine.pow_fzero_left P hg, Machine.pow_fone_left P, Machine.pow_fone_right P,
    fun _ _ hq hg => Machine.inUnit_pow P hq hg⟩

end Sys2Proof
end

section
/-! PROOFS. A running frame, its host and platform keeping the duties of R236 and R237: what a step leaves of
it, and O36. -/

namespace Sys2Proof.Machine

open Sys2Proof Sys2Proof.Safety

/-- `t` runs the frame of `s` and has got no further: the same rectangle, PENDING, operands and records, and the
same pixels of both images on the rectangle. -/
structure SameFrame (s t : State) : Prop where
  pending : t.pending = s.pending
  frameMin : t.frameMin = s.frameMin
  frameMax : t.frameMax = s.frameMax
  loss : t.loss = s.loss
  gamma : t.gamma = s.gamma
  lut : t.lut = s.lut
  preFrame : t.preFrame = s.preFrame
  kept : t.kept = s.kept
  breach : t.breach = s.breach
  dst : ∀ c, inFrame s c = true → dstAt t.dst c = dstAt s.dst c
  src : ∀ c, inFrame s c = true → srcAt t.src c = srcAt s.src c

/-- `t` is one step further in the frame of `s`, or has ended it: each pixel of the rectangle is pending and as
it was before the frame, or dithered, and DONE marks the end (R173, R174). -/
def AdvancesFrame (s t : State) : Prop :=
  (∀ c : Coord, inFrame s c = true → dstAt t.dst c =
    if c ∈ t.pending then dstAt s.preFrame c else pixOf Config.params s c (srcAt s.src c)) ∧
  (if busy t then FrameProgress t ∧ PendingInFrame t else t.done = true)

/-! ### Steps that leave the frame as it is -/

section
variable {s t : State} (h : SameFrame s t)
include h

theorem SameFrame.busy_eq : busy t = busy s := by simp only [busy, h.pending]

theorem SameFrame.inFrame_eq (c : Coord) : inFrame t c = inFrame s c := by
  simp only [inFrame, h.frameMin, h.frameMax]

theorem SameFrame.pixOf_eq (P : Params) (c : Coord) (p : SrcPixel) : pixOf P t c p = pixOf P s c p := by
  simp only [pixOf, h.lut, h.loss, h.gamma]

theorem SameFrame.pendingInFrame (hp : PendingInFrame s) : PendingInFrame t := by
  simpa only [PendingInFrame, h.pending, h.inFrame_eq] using hp

theorem SameFrame.frameProgress (hf : FrameProgress s) : FrameProgress t := by
  obtain ⟨hbreach, hkept, hpix⟩ := hf
  refine ⟨h.breach.trans hbreach, h.kept.trans hkept, fun c hc => ?_⟩
  rw [h.inFrame_eq] at hc
  rw [h.dst c hc, h.src c hc, h.pending, h.preFrame, h.pixOf_eq, hpix c hc]

theorem SameFrame.advancesFrame (hb : busy s = true) (hp : PendingInFrame s) (hf : FrameProgress s) :
    AdvancesFrame s t := by
  refine ⟨fun c hc => ?_, ?_⟩
  · obtain ⟨-, -, hpix⟩ := hf
    rw [h.dst c hc, h.pending, hpix c hc]
  · rw [if_pos (h.busy_eq.trans hb)]
    exact ⟨h.frameProgress hf, h.pendingInFrame hp⟩

end

theorem SameFrame.refl (s : State) : SameFrame s s :=
  ⟨rfl, rfl, rfl, rfl, rfl, rfl, rfl, rfl, rfl, fun _ _ => rfl, fun _ _ => rfl⟩

/-- A host transaction leaves a running frame as it is (R141). -/
theorem runTransaction_sameFrame {s t : State} {tw : Transaction} (hb : busy s = true)
    (h : runTransaction tw s = .next t) : SameFrame s t := by
  obtain ⟨hloss, hgamma, hlut, hmin, hmax, hpending, hdst, hsrc, hpre, hkept, hbreach, -, -⟩ :=
    runTransaction_while_busy hb h
  exact ⟨hpending, hmin, hmax, hloss, hgamma, hlut, hpre, hkept, hbreach, by simp [hdst], by simp [hsrc]⟩

/-- So does an access of the byte bridge, which is a transaction or none. -/
theorem busEvent_sameFrame {s t : State} {a : BusAccess} (hb : busy s = true) (h : busEvent a s = .next t) :
    SameFrame s t := by
  unfold busEvent at h
  split at h
  · cases h; exact .refl s
  · cases h
  · exact runTransaction_sameFrame hb h

/-- A source pixel that is stored outside the rectangle is no pixel of the frame (R236). -/
theorem changeSource_sameFrame {s : State} {c : Coord} (p : SrcPixel) (hc : inFrame s c = false) :
    SameFrame s (changeSource c p s) := by
  rw [changeSource, if_neg (by simp [hc])]
  have other : ∀ d, inFrame s d = true → d ≠ c := by rintro d hd rfl; simp [hc] at hd
  exact { SameFrame.refl s with src := fun d hd => srcAt_write_other _ _ _ _ (other d hd) }

/-- A host write that does not race with the frame lands outside its rectangle (R237). -/
theorem hostWrite_sameFrame {s : State} {c : Coord} (v : DstPixel) (survives : Bool) (hb : busy s = true)
    (hr : races s c = false) : SameFrame s (hostWrite c v survives s) := by
  have hc : inFrame s c = false := by simpa [races, hb] using hr
  rw [hostWrite, if_neg (by simp [hr])]
  have other : ∀ d, inFrame s d = true → d ≠ c := by rintro d hd rfl; simp [hc] at hd
  exact { SameFrame.refl s with dst := fun d hd => dstAt_write_other _ _ _ _ (other d hd) }

/-- Every dutiful event but a sequencer step and a reset leaves a running frame as it is. -/
theorem runEvent_sameFrame {s t : State} {e : Event} (hb : busy s = true) (hd : dutiful s e = true)
    (hseq : isSequencerStep e = false) (hreset : e ≠ .reset) (h : runEvent e s = .next t) : SameFrame s t := by
  cases e with
  | transaction tw => exact runTransaction_sameFrame hb h
  | bus a => exact busEvent_sameFrame hb h
  | sequencer k => cases hseq
  | srcPresent b =>
    have hno : (b && s.srcPresent) = true := by simpa [dutiful, hb] using hd
    cases h
    rw [driveSrcPresent, if_pos hno]
    exact { SameFrame.refl s with }
  | srcHp b =>
    have hno : (b && s.srcHp) = true := by simpa [dutiful, hb] using hd
    cases h
    rw [driveSrcHp, if_pos hno]
    exact { SameFrame.refl s with }
  | srcWrite c p => cases h; exact changeSource_sameFrame p (by simpa [dutiful, hb] using hd)
  | srcSideEffect => simp [dutiful, hb] at hd
  | dstRead c sees => cases h; exact { SameFrame.refl s with }
  | dstWrite c v survives => cases h; exact hostWrite_sameFrame v survives hb (by simpa [dutiful] using hd)
  | overlap b =>
    have hno : b = false := by simpa [dutiful, hb] using hd
    subst hno
    cases h
    exact { SameFrame.refl s with }
  | reset => exact absurd rfl hreset

/-! ### The sequencer step -/

theorem frameValue_of_no_breach (P : Params) {s : State} (c : Coord) (h : s.breach = none) :
    frameValue P s c = pixOf P s c (srcAt s.src c) := by simp [frameValue, h]

/-- The write of a sequencer step makes the frame's progress that of PENDING without the coordinate (R173). -/
theorem frameWrite_progress {s : State} {c : Coord} (hp : PendingInFrame s) (hf : FrameProgress s) :
    ∃ m, frameWrite Config.params c s = { s with dst := m } ∧ ∀ d, inFrame s d = true → dstAt m d =
      if d ∈ s.pending.erase c then dstAt s.preFrame d else pixOf Config.params s d (srcAt s.src d) := by
  obtain ⟨hbreach, hkept, hpix⟩ := hf
  refine ⟨_, frameWrite_frame Config.params c s, fun d hd => ?_⟩
  by_cases hdc : d = c
  · subst hdc
    rw [dstAt_frameWrite_same, if_neg (by simp [hkept]), frameValue_of_no_breach _ _ hbreach,
      if_neg hp.1.not_mem_erase]
  · simp only [dstAt_frameWrite_other _ _ _ _ hdc, List.mem_erase_of_ne hdc, hpix d hd]

theorem pendingInFrame_erase {s : State} (c : Coord) (m : Memory 32) (hp : PendingInFrame s) :
    PendingInFrame { s with dst := m, pending := s.pending.erase c } :=
  ⟨hp.1.erase c, fun d hd => hp.2 d (List.mem_of_mem_erase hd)⟩

/-- A sequencer step advances the frame, the last one too (R173, R174). -/
theorem sequencerStep_advancesFrame {s : State} (k : Nat) (hb : busy s = true) (hp : PendingInFrame s)
    (hf : FrameProgress s) : AdvancesFrame s (sequencerStep Config.params k s) := by
  obtain ⟨c, hc⟩ := picked_some k hb
  obtain ⟨m, hwrite, hpix⟩ := frameWrite_progress (c := c) hp hf
  rw [sequencerStep_picked _ hc, hwrite]
  obtain ⟨hne, hr⟩ | ⟨hnil, hr⟩ := retire_cases c { s with dst := m }
  · rw [hr]
    refine ⟨hpix, ?_⟩
    rw [if_pos ((busy_iff _).2 hne)]
    exact ⟨⟨hf.1, hf.2.1, hpix⟩, pendingInFrame_erase c m hp⟩
  · rw [hr]
    refine ⟨hpix, ?_⟩
    rw [if_neg (Bool.not_eq_true _ ▸ (busy_eq_false_iff _).2 hnil)]
    rfl

theorem runEvent_advancesFrame {s t : State} {e : Event} (h : runEvent e s = .next t) (hb : busy s = true)
    (hp : PendingInFrame s) (hf : FrameProgress s) (hd : dutiful s e = true) (hreset : e ≠ .reset) :
    AdvancesFrame s t := by
  cases hseq : isSequencerStep e with
  | false => exact (runEvent_sameFrame hb hd hseq hreset h).advancesFrame hb hp hf
  | true =>
    cases e with
    | sequencer k => cases h; exact sequencerStep_advancesFrame k hb hp hf
    | _ => cases hseq

end Sys2Proof.Machine

namespace Sys2Proof

open Machine

/-- Settles O36: the sequencer step advances the frame, every other dutiful event leaves it as it is, and taking
the event out of the schedule touches nothing of it. -/
theorem stepKeepsFrameProgress : Obligations.StepKeepsFrameProgress := by
  intro s t hb hp hf hd hreset h
  rw [step, nextEvent_frame] at h
  -- The event runs on `s` with another schedule and draw count, which none of these predicates reads.
  have advances := runEvent_advancesFrame h hb hp hf hd hreset
  exact advances

end Sys2Proof
end

section
/-! PROOFS. The flags, the interrupt line, the registers and the inputs: what each transaction or event makes of
them, and O27, O28, O29, O33. -/

namespace Sys2Proof.Machine

open Sys2Proof Sys2Proof.Safety

/-- An accepted FRAME changes DONE, PENDING and the model's record of the frame, and nothing else (R172). -/
theorem acceptFrame_frame (s : State) : acceptFrame s =
    { s with
      done := (acceptFrame s).done
      pending := (acceptFrame s).pending
      preFrame := (acceptFrame s).preFrame
      kept := (acceptFrame s).kept
      breach := (acceptFrame s).breach } := by
  obtain ⟨-, h⟩ | ⟨-, h⟩ := acceptFrame_cases s <;> rw [h] <;> rfl

@[simp] theorem acceptFrame_err (s : State) : (acceptFrame s).err = s.err := by rw [acceptFrame_frame]

@[simp] theorem acceptFrame_rej (s : State) : (acceptFrame s).rej = s.rej := by rw [acceptFrame_frame]

/-! ### The flags after a transaction -/

section
variable {i : Instr} {s t : State} (h : exec i s = .next t)
include h

/-- What a transaction makes of DONE (R143, R172). -/
theorem exec_done_cases : t.done = s.done ∨ i = .cmdFrame ∨
    ∃ d, i = .wrStatus d ∧ t.done = (s.done && !clearsDone d) := by
  cases exec_effect h <;> simp

/-- What a transaction makes of ERR (R143, R201). -/
theorem exec_err_cases : t.err = s.err ∨ (t.err = true ∧ (i = .cmdFrame ∨ ∃ w, i = .cmdReserved w)) ∨
    ∃ d, i = .wrStatus d ∧ t.err = (s.err && !clearsErr d) := by
  cases exec_effect h <;> simp

/-- What a transaction makes of REJ (R143, R204). -/
theorem exec_rej_cases : t.rej = s.rej ∨ (t.rej = true ∧ isGuarded i = true ∧ busy s = true) ∨
    ∃ d, i = .wrStatus d ∧ t.rej = (s.rej && !clearsRej d) := by
  cases exec_effect h with
  | rejected i hi hb => exact .inr (.inl ⟨rfl, hi, hb⟩)
  | _ => simp

/-- The sources and the clearing of DONE. -/
theorem exec_done_sources : (s.done = false → t.done = true → i = .cmdFrame) ∧
    (s.done = true → t.done = false → i = .cmdFrame ∨ ∃ d, i = .wrStatus d) := by
  obtain hkeep | rfl | ⟨d, rfl, hclear⟩ := exec_done_cases h
  · simp +contextual [hkeep]
  · simp
  · simp +contextual [hclear]

/-- The sources and the clearing of ERR. -/
theorem exec_err_sources : (s.err = false → t.err = true → i = .cmdFrame ∨ ∃ w, i = .cmdReserved w) ∧
    (s.err = true → t.err = false → ∃ d, i = .wrStatus d) := by
  obtain hkeep | ⟨hset, hi⟩ | ⟨d, rfl, hclear⟩ := exec_err_cases h
  · simp +contextual [hkeep]
  · simp [hset, hi]
  · simp +contextual [hclear]

/-- The sources and the clearing of REJ. -/
theorem exec_rej_sources : (s.rej = false → t.rej = true → isGuarded i = true ∧ busy s = true) ∧
    (s.rej = true → t.rej = false → ∃ d, i = .wrStatus d) := by
  obtain hkeep | ⟨hset, hi⟩ | ⟨d, rfl, hclear⟩ := exec_rej_cases h
  · simp +contextual [hkeep]
  · simp [hset, hi]
  · simp +contextual [hclear]

end

/-! ### The inputs -/

/-- An input that the platform may drive breaks no duty (R236, R240). -/
theorem driveSrcPresent_dutiful {s : State} {b : Bool} (h : busy s = false ∨ (b = true ∧ s.srcPresent = true)) :
    driveSrcPresent b s = { s with srcPresent := b } := by
  rw [driveSrcPresent]
  split
  · rfl
  · next hno => exact breachDuty_idle (s := { s with srcPresent := b }) (h.resolve_right (by simpa using hno))

/-- An input that the platform may drive breaks no duty (R236, R240). -/
theorem driveSrcHp_dutiful {s : State} {b : Bool} (h : busy s = false ∨ (b = true ∧ s.srcHp = true)) :
    driveSrcHp b s = { s with srcHp := b } := by
  rw [driveSrcHp]
  split
  · rfl
  · next hno => exact breachDuty_idle (s := { s with srcHp := b }) (h.resolve_right (by simpa using hno))

theorem statusWord_srcPresent (s : State) : (statusWord s).getLsbD 16 = s.srcPresent := by
  simp only [statusWord, BitVec.truncate_eq_setWidth, BitVec.getLsbD_setWidth, BitVec.getLsbD_append]
  simp

theorem statusWord_srcHp (s : State) : (statusWord s).getLsbD 17 = s.srcHp := by
  simp only [statusWord, BitVec.truncate_eq_setWidth, BitVec.getLsbD_setWidth, BitVec.getLsbD_append]
  simp

end Sys2Proof.Machine

namespace Sys2Proof

open Machine

/-- Settles O27: the three flags, each with its sources and its clearing. -/
theorem flagSources : Obligations.FlagSources := by
  intro i s t h
  obtain ⟨doneSet, doneClear⟩ := exec_done_sources h
  obtain ⟨errSet, errClear⟩ := exec_err_sources h
  obtain ⟨rejSet, rejClear⟩ := exec_rej_sources h
  exact ⟨doneSet, errSet, rejSet, doneClear, errClear, rejClear⟩

/-- Settles O29, by the effects a transaction can have; of FRAME's, PENDING is the only register. -/
theorem registerFrame : Obligations.RegisterFrame := by
  intro i s t h
  cases exec_effect h with
  | frame => rw [acceptFrame_frame]; simp
  | _ => simp

/-- Settles O28: the formula of R38, read as propositions. -/
theorem interruptLine : Obligations.InterruptLine := by
  intro s
  simp only [irq, Bool.or_eq_true, Bool.and_eq_true, or_assoc]

/-- Settles O33: driving an input without breaking a duty changes the input alone, and STATUS reads it. -/
theorem inputsFollowPlatform : Obligations.InputsFollowPlatform := fun _ _ =>
  ⟨fun h => congrArg _ (driveSrcPresent_dutiful h), fun h => congrArg _ (driveSrcHp_dutiful h),
    statusWord_srcPresent _, statusWord_srcHp _⟩

end Sys2Proof
end

section
/-! PROOFS. The channel function: its outputs are grid values (O58), and it does not decrease in the sample
(O59). -/

namespace Sys2Proof.Machine

open Sys2Proof Sys2Proof.Safety

/-! ### The bracket's indices -/

theorem shiftRight_le_shiftRight_left {m n : Nat} (h : m ≤ n) (k : Nat) : m >>> k ≤ n >>> k := by
  simpa only [Nat.shiftRight_eq_div_pow] using Nat.div_le_div_right h

/-- The bracket of a sample below 255 lies within the row up to `M(L)` (R106). -/
theorem lowIndex_add_two_le (L : Level) {v : Sample8} (hv : v ≠ 255) : lowIndex L v + 2 ≤ maxIndex L := by
  have hv254 : v.toNat ≤ 254 := by
    have := v.isLt
    have : v.toNat ≠ 255 := fun h => hv (BitVec.eq_of_toNat_eq h)
    omega
  have hshift : shifted L v ≤ 254 >>> L.toNat := shiftRight_le_shiftRight_left hv254 _
  have hone : 1 ≤ 254 >>> L.toNat := by clear hshift; decide +revert
  unfold lowIndex maxIndex
  split <;> omega

theorem bracketIndex_add_one_le (P : Params) (L : Level) {v : Sample8} (hv : v ≠ 255) :
    bracketIndex P L v + 1 ≤ maxIndex L := by
  have := lowIndex_add_two_le L hv
  unfold bracketIndex
  split <;> omega

theorem lowIndex_mono (L : Level) {v w : Sample8} (h : v ≤ w) : lowIndex L v ≤ lowIndex L w := by
  have hshift : shifted L v ≤ shifted L w := shiftRight_le_shiftRight_left h _
  unfold lowIndex
  split <;> split <;> omega

/-- A larger sample has no lower bracket: where the initial indices agree, the advance of R105 is monotone. -/
theorem bracketIndex_mono (P : Params) (L : Level) {v w : Sample8} (h : v ≤ w) :
    bracketIndex P L v ≤ bracketIndex P L w := by
  obtain hlt | heq := Nat.lt_or_eq_of_le (lowIndex_mono L h)
  · unfold bracketIndex
    split <;> split <;> omega
  · have hadv : advances P L v = true → advances P L w = true := by
      simp only [advances, heq, decide_eq_true_eq]
      exact fun hv => BitVec.le_trans hv h
    unfold bracketIndex
    rw [heq]
    split
    · next hv => rw [if_pos (hadv hv)]
    · split <;> omega

/-- A row that does not decrease from each entry to the next does not decrease (R41). -/
theorem expand_mono {P : Params} {L : Level} (hrow : RowMono P L) {i j : Nat} (hij : i ≤ j)
    (hj : j ≤ maxIndex L) : expand P L i ≤ expand P L j := by
  induction j, hij using Nat.le_induction with
  | base => exact BitVec.le_refl _
  | succ k _ ih => exact BitVec.le_trans (ih (by omega)) (hrow k (by omega))

/-! ### The output of a channel -/

theorem channel_white (P : Params) (lut : Option Lut) (L : Level) (G n : F64) {s16 : Sample16}
    (h : trunc s16 = 255) : channel P lut L G n s16 = 255 := by
  simp [channel, h]

/-- The channel function below the bypass of 255: the two entries of the bracket, selected by the position. -/
theorem channel_bracket (P : Params) (lut : Option Lut) (L : Level) (G n : F64) {s16 : Sample16}
    (h : trunc s16 ≠ 255) : channel P lut L G n s16 =
      select (position (lin P lut G (trunc s16)) (lin P lut G (bracket P L (trunc s16)).1)
        (lin P lut G (bracket P L (trunc s16)).2)) n
        (bracket P L (trunc s16)).1 (bracket P L (trunc s16)).2 := by
  exact if_neg h

/-- Below the bypass the output is one of the two entries of the bracket (R112). -/
theorem channel_mem_bracket (P : Params) (lut : Option Lut) (L : Level) (G n : F64) {s16 : Sample16}
    (h : trunc s16 ≠ 255) :
    channel P lut L G n s16 = expand P L (bracketIndex P L (trunc s16)) ∨
      channel P lut L G n s16 = expand P L (bracketIndex P L (trunc s16) + 1) := by
  rw [channel_bracket _ _ _ _ _ h, select]
  split
  · exact .inr rfl
  · exact .inl rfl

theorem trunc_mono {a b : Sample16} (h : a ≤ b) : trunc a ≤ trunc b := by
  have hab : a.toNat ≤ b.toNat := h
  rw [BitVec.le_def]
  simp only [trunc, BitVec.extractLsb'_toNat, Nat.shiftRight_eq_div_pow]
  omega

/-! ### The position within one bracket -/

/-- A larger position selects no lower endpoint (R112). -/
theorem select_mono {p q n : F64} {l u : Sample8} (hlu : l ≤ u) (hpq : fgt p n = true → fgt q n = true) :
    select p n l u ≤ select q n l u := by
  unfold select
  split
  · next hp => rw [if_pos (hpq hp)]; exact BitVec.le_refl _
  · split
    · exact hlu
    · exact BitVec.le_refl _

/-- The power law of a sample lies in [0, 1] (R109, POW_RANGE of R7). -/
theorem inUnit_linPower (P : Params) {G : F64} (hG : fgt G fzero = true) (v : Sample8) :
    inUnit (linPower P G v) = true := inUnit_pow P (inUnit_unitValue v) hG

/-- So does what the linearizer gives, in both variants (R110). -/
theorem inUnit_lin_lutFill (P : Params) {G : F64} (hG : fgt G fzero = true) (v : Sample8) :
    inUnit (lin P (lutFill P G) G v) = true := by
  rw [lin_lutFill]
  exact inUnit_linPower P hG v

theorem finite_of_inUnit {q : F64} (h : inUnit q = true) : IsFinite q := ((inUnit_iff q).1 h).1

/-- With a monotone power function the linearizer does not decrease in the sample. -/
theorem lin_lutFill_mono {P : Params} {G : F64} (hpow : PowMono P G) {v w : Sample8} (h : v ≤ w) :
    forder (lin P (lutFill P G) G v) ≤ forder (lin P (lutFill P G) G w) := by
  have hv := finite_of_inUnit (inUnit_unitValue v)
  have hw := finite_of_inUnit (inUnit_unitValue w)
  have hle : fle (unitValue v) (unitValue w) = true :=
    (fle_iff _ _).2 ⟨hv.not_nan, hw.not_nan, forder_unitValue_le h⟩
  rw [lin_lutFill, lin_lutFill]
  obtain ⟨-, -, hpow⟩ := (fle_iff _ _).1 (hpow _ _ (inUnit_unitValue v) (inUnit_unitValue w) hle)
  exact hpow

theorem units_ne_zero_of_forder_pos {a : F64} (h : 0 < forder a) : units a ≠ 0 := by
  intro h0
  have : fmag a = 0 := (units_eq_zero_iff a).1 h0
  simp [forder, this] at h

theorem units_eq_zero_of_forder {a : F64} (h : forder a = 0) : units a = 0 := by
  have : fmag a = 0 := by
    unfold forder at h
    split at h <;> omega
  exact (units_eq_zero_iff a).2 this

/-- A quotient by a positive divisor does not decrease in the dividend; where the divisor is zero and the smaller
dividend is too, the smaller quotient is NaN and exceeds nothing (R111, R112). -/
theorem fgt_fdiv_mono {a b c n : F64} (ha : IsFinite a) (hb : IsFinite b) (hc : IsFinite c) (h0 : 0 ≤ forder a)
    (hab : forder a ≤ forder b) (hac : forder a ≤ forder c) (h : fgt (fdiv a c) n = true) :
    fgt (fdiv b c) n = true := by
  obtain hpos | hzero := Int.lt_or_eq_of_le (Int.le_trans h0 hac)
  · obtain ⟨-, hn, hlt⟩ := (fgt_iff _ _).1 h
    have hle := fdiv_le_left ha hb hc h0 hab hpos
    exact (fgt_iff _ _).2 ⟨not_isNan_fdiv hb hc (units_ne_zero_of_forder_pos hpos), hn, by omega⟩
  · have hnan : fdiv a c = fnan :=
      fdiv_zero_zero ha hc (units_eq_zero_of_forder (by omega)) (units_eq_zero_of_forder (by omega))
    rw [hnan, fgt_nan_left isNan_fnan] at h
    cases h

/-- Within one bracket a larger value has no lower position. -/
theorem fgt_position_mono {fl fa fb fu n : F64} (hl : inUnit fl = true) (ha : inUnit fa = true)
    (hb : inUnit fb = true) (hu : inUnit fu = true) (hla : forder fl ≤ forder fa) (hab : forder fa ≤ forder fb)
    (hau : forder fa ≤ forder fu) (h : fgt (position fa fl fu) n = true) : fgt (position fb fl fu) n = true := by
  have hlf := finite_of_inUnit hl
  have haf := finite_of_inUnit ha
  exact fgt_fdiv_mono (fsub_inUnit_finite ha hl) (fsub_inUnit_finite hb hl) (fsub_inUnit_finite hu hl)
    (fsub_nonneg haf hlf hla) (fsub_le_left haf (finite_of_inUnit hb) hlf hab)
    (fsub_le_left haf (finite_of_inUnit hu) hlf hau) h

/-! ### The two cases of the monotonicity -/

section
variable {P : Params} {L : Level} {G n : F64} {a b : Sample16}

/-- Two samples of one bracket (R111). -/
theorem channel_mono_same_bracket (hrow : RowMono P L) (hbr : RowBrackets P L) (hG : fgt G fzero = true)
    (hpow : PowMono P G) (hab : a ≤ b) (ha : trunc a ≠ 255) (hb : trunc b ≠ 255)
    (hk : bracketIndex P L (trunc a) = bracketIndex P L (trunc b)) :
    channel P (lutFill P G) L G n a ≤ channel P (lutFill P G) L G n b := by
  obtain ⟨hla, hau⟩ := hbr (trunc a) ha
  have hlu := hrow (bracketIndex P L (trunc a)) (bracketIndex_add_one_le P L ha)
  have hbracket : bracket P L (trunc b) = bracket P L (trunc a) := by rw [bracket, bracket, hk]
  rw [channel_bracket _ _ _ _ _ ha, channel_bracket _ _ _ _ _ hb, hbracket]
  have unit := inUnit_lin_lutFill P hG
  exact select_mono hlu (fgt_position_mono (unit _) (unit _) (unit _) (unit _) (lin_lutFill_mono hpow hla)
    (lin_lutFill_mono hpow (trunc_mono hab)) (lin_lutFill_mono hpow (BitVec.le_of_lt hau)))

/-- A sample of a lower bracket: an entry of the row lies between the outputs. -/
theorem channel_mono_lower_bracket (hrow : RowMono P L) (ha : trunc a ≠ 255) (hb : trunc b ≠ 255)
    (hk : bracketIndex P L (trunc a) < bracketIndex P L (trunc b)) (lut : Option Lut) :
    channel P lut L G n a ≤ channel P lut L G n b := by
  have hmax := bracketIndex_add_one_le P L hb
  have hlow : channel P lut L G n a ≤ expand P L (bracketIndex P L (trunc b)) := by
    obtain h | h := channel_mem_bracket P lut L G n ha <;> rw [h] <;> exact expand_mono hrow (by omega) (by omega)
  have hhigh : expand P L (bracketIndex P L (trunc b)) ≤ channel P lut L G n b := by
    obtain h | h := channel_mem_bracket P lut L G n hb <;> rw [h] <;> exact expand_mono hrow (by omega) (by omega)
  exact BitVec.le_trans hlow hhigh

end

end Sys2Proof.Machine

namespace Sys2Proof

open Machine

/-- Settles O58: the bypass gives 255, a grid value by `WF_TOP`; every other output is an endpoint of the bracket. -/
theorem outputOnGrid : Obligations.OutputOnGrid := by
  intro P lut L G n s16 ⟨k, hk, htop⟩
  by_cases hw : trunc s16 = 255
  · exact ⟨k, hk, by rw [channel_white _ _ _ _ _ hw, htop]⟩
  · have hmax := bracketIndex_add_one_le P L hw
    obtain h | h := channel_mem_bracket P lut L G n hw
    · exact ⟨_, by omega, h⟩
    · exact ⟨_, hmax, h⟩

/-- Settles O59: 255 is the largest output; two samples below it lie in one bracket, or the smaller one in a
lower bracket. -/
theorem ditherIsMonotone : Obligations.DitherIsMonotone := by
  intro P L G n a b hrow hbr hG hpow hab
  by_cases hb : trunc b = 255
  · rw [channel_white _ _ _ _ _ hb]
    exact BitVec.le_def.2 (Nat.le_of_lt_succ (BitVec.isLt _))
  have ha : trunc a ≠ 255 := by
    have hle : (trunc a).toNat ≤ (trunc b).toNat := trunc_mono hab
    intro ha
    rw [ha] at hle
    exact hb (BitVec.eq_of_toNat_eq (Nat.le_antisymm (Nat.le_of_lt_succ (trunc b).isLt) hle))
  obtain hlt | hk := Nat.lt_or_eq_of_le (bracketIndex_mono P L (trunc_mono hab))
  · exact channel_mono_lower_bracket hrow ha hb hlt _
  · exact channel_mono_same_bracket hrow hbr hG hpow hab ha hb hk

end Sys2Proof
end

section
/-! PROOFS. The register port (20_memory.md R51 to R58): what a step makes of a scheduled transaction or bus
access, which accesses the byte bridge carries, and which bytes; O6, O7, O8. -/

namespace Sys2Proof.Machine

open Sys2Proof

/-! ### The step and the words of a transaction -/

/-- A step with something scheduled runs the first event of the schedule, on the state without it. -/
theorem step_of_schedule {s : State} {e : Event} {rest : List Event} (h : s.schedule = e :: rest) :
    step s = runEvent e { s with schedule := rest } := by
  simp only [step, nextEvent, h]

theorem runTransaction_of_decode {tw : Transaction} {i : Instr} (h : decode tw = .ok i) (s : State) :
    runTransaction tw s = exec i s := by
  simp only [runTransaction, h]

theorem toNat_mod_eight_ne_zero {offset : BitVec 8} (h : offset.extractLsb' 0 3 ≠ 0) : offset.toNat % 8 ≠ 0 :=
  fun h0 => h (BitVec.eq_of_toNat_eq (by simpa using h0))

/-- The 32 rows of the table are the multiples of 8; the arm after them refuses (R81, R83). -/
theorem decodeRead_unaligned {offset : BitVec 8} (h : offset.toNat % 8 ≠ 0) :
    decodeRead offset = .error (.unalignedOffset offset) := by
  unfold decodeRead
  split
  case h_33 => rfl
  all_goals omega

/-- The 32 rows of the table are the multiples of 8; the arm after them refuses (R81, R83). -/
theorem decodeWrite_unaligned {offset : BitVec 8} (h : offset.toNat % 8 ≠ 0) (data : Word) :
    decodeWrite offset data = .error (.unalignedOffset offset) := by
  unfold decodeWrite
  split
  case h_33 => rfl
  all_goals omega

/-- Read or write, a word whose OFFSET is no slot's is no transaction (R58, R83). -/
theorem decode_unaligned {tw : Transaction} (h : (Transaction.offset tw).extractLsb' 0 3 ≠ 0) :
    decode tw = .error (.unalignedOffset (Transaction.offset tw)) := by
  have hmod := toNat_mod_eight_ne_zero h
  unfold decode
  split
  · exact decodeWrite_unaligned hmod _
  · exact decodeRead_unaligned hmod

/-! ### The bytes of a slot -/

theorem slotByte_joinBytes_zero (b : Byte) (rest : List Byte) : slotByte (joinBytes (b :: rest)) 0 = b := by
  apply BitVec.eq_of_getLsbD_eq
  intro i hi
  have hword : i < 64 := by omega
  simp [slotByte, joinBytes, hi, hword]

theorem slotByte_joinBytes_succ (b : Byte) (rest : List Byte) {j : Nat} (hj : j + 1 < 8) :
    slotByte (joinBytes (b :: rest)) (j + 1) = slotByte (joinBytes rest) j := by
  apply BitVec.eq_of_getLsbD_eq
  intro i hi
  have hword : 8 * (j + 1) + i < 64 := by omega
  have hnext : 8 * (j + 1) + i - 8 = 8 * j + i := by omega
  have hlow : b.getLsbD (8 * (j + 1) + i) = false := BitVec.getLsbD_of_ge _ _ (by omega)
  have hhigh : ¬ 8 * (j + 1) + i < 8 := by omega
  simp [slotByte, joinBytes, hi, hword, hnext, hlow, hhigh, -BitVec.getLsbD_eq_getElem]

/-- Byte `j` of the word of a list of bytes is byte `j` of the list (R57). -/
theorem slotByte_joinBytes (bytes : List Byte) {j : Nat} (hlen : j < bytes.length) (hj : j < 8) :
    some (slotByte (joinBytes bytes) j) = bytes[j]? := by
  induction bytes generalizing j with
  | nil => cases hlen
  | cons b rest ih =>
    cases j with
    | zero => simp [slotByte_joinBytes_zero]
    | succ j =>
      rw [slotByte_joinBytes_succ b rest hj, List.getElem?_cons_succ]
      exact ih (by simpa using hlen) (by omega)

/-! ### The routes of a bus access -/

section
variable {P : Params} {a : BusAccess}

theorem touchesBlock_iff : touchesBlock P a = true ↔
    0 < a.bytes.length ∧ P.base < a.addr + a.bytes.length ∧ a.addr < P.base + 256 := by
  simp [touchesBlock, and_assoc]

/-- Eight bytes of slot `k` are its transaction (R51, R57). -/
theorem routeBus_slot {k : Nat} (hk : k < 32) (haddr : a.addr = P.base + 8 * k) (hlen : a.bytes.length = 8) :
    routeBus P a =
      .port (Transaction.mk a.write (BitVec.ofNat 8 (8 * k)) (if a.write then joinBytes a.bytes else 0)) := by
  have htouch : touchesBlock P a = true := touchesBlock_iff.2 (by omega)
  simp [routeBus, htouch, haddr, hlen]

/-- An access that touches the block and is no whole aligned slot is none the bridge can carry (R58, U11). -/
theorem routeBus_illFormed (htouch : touchesBlock P a = true)
    (hno : ¬ ∃ k : Nat, k < 32 ∧ a.addr = P.base + 8 * k ∧ a.bytes.length = 8) :
    routeBus P a = .illFormed := by
  rw [routeBus, if_pos htouch, if_neg]
  simp only [Bool.and_eq_true, decide_eq_true_eq, beq_iff_eq]
  rintro ⟨⟨hbase, hmod⟩, hlen⟩
  have hlast := (touchesBlock_iff.1 htouch).2.2
  exact hno ⟨(a.addr - P.base) / 8, by omega, by omega, hlen⟩

/-- An access that touches no byte of the block is not QDITH's (R51). -/
theorem routeBus_elsewhere (htouch : ¬ touchesBlock P a = true) : routeBus P a = .elsewhere :=
  if_neg htouch

end

end Sys2Proof.Machine

namespace Sys2Proof

open Machine

/-- Settles O6: the step runs the event, and the event's meaning is `exec` of what it decodes to. -/
theorem stepRunsDecodedTransaction : Obligations.StepRunsDecodedTransaction := fun _ _ _ _ hs hi =>
  (step_of_schedule hs).trans (runTransaction_of_decode hi _)

/-- Settles O7: the decoder has no row for an OFFSET off the slots, and the step refuses what does not decode. -/
theorem unalignedTransactionRefused : Obligations.UnalignedTransactionRefused := by
  intro s tw rest hs hoff
  rw [step_of_schedule hs, runEvent, runTransaction, decode_unaligned hoff]

/-- Settles O8: the three routes, the step for each of them, and the bytes of a response. -/
theorem bridgeCarriesWholeSlots : Obligations.BridgeCarriesWholeSlots := by
  refine ⟨fun P a => ⟨fun k hk haddr hlen => ?_, fun hpos hlow hhigh => ?_, fun hno => ?_⟩, ?_, ?_⟩
  · refine ⟨_, routeBus_slot hk haddr hlen, fun hw j hj => ?_, fun hr => by simp [hr]⟩
    rw [if_pos hw]
    exact slotByte_joinBytes a.bytes (by omega) hj
  · exact routeBus_illFormed (touchesBlock_iff.2 ⟨hpos, hlow, hhigh⟩)
  · exact routeBus_elsewhere (mt touchesBlock_iff.1 hno)
  · intro s a rest hs
    rw [step_of_schedule hs, runEvent, busEvent]
    cases routeBus Config.params a <;> rfl
  · intro s v hv
    refine ⟨(List.range 8).map (slotByte v), by rw [busReply, hv]; rfl, by simp, fun j hj => ?_⟩
    rw [List.getElem?_map, List.getElem?_range hj]
    rfl

end Sys2Proof
end

section
/-! PROOFS. The image spaces (20_memory.md R55, R56): that no transaction writes a pixel, and what the events of
the source and of shared storage do; O30, O60. -/

namespace Sys2Proof.Machine

open Sys2Proof

/-- No transaction stores into an image: a FRAME only sets the sequencer up (R172). -/
theorem exec_images {i : Instr} {s t : State} (h : exec i s = .next t) : t.dst = s.dst ∧ t.src = s.src := by
  cases exec_effect h with
  | frame => rw [acceptFrame_frame]; exact ⟨rfl, rfl⟩
  | _ => exact ⟨rfl, rfl⟩

@[simp] theorem changeSource_src (c : Coord) (p : SrcPixel) (s : State) :
    (changeSource c p s).src = memWrite s.src (coordKey c) p := by
  unfold changeSource
  split <;> simp

/-- All a store to a source pixel can do: the image, and the record of a breach at a coordinate of a running
frame (R236). -/
theorem changeSource_eq (c : Coord) (p : SrcPixel) (s : State) : changeSource c p s =
    if busy s && inFrame s c then { srcStore c p s with breach := some s.draws, draws := s.draws + 1 }
    else srcStore c p s := by
  unfold changeSource
  cases hframe : inFrame s c with
  | false => simp
  | true =>
    cases hb : busy s with
    | true => exact breachDuty_busy (s := srcStore c p s) hb
    | false => exact breachDuty_idle (s := srcStore c p s) hb

/-- Overlap may end at any time and begin while no frame runs (R237, U10). -/
theorem driveOverlap_allowed {s : State} {b : Bool} (h : b = false ∨ busy s = false) :
    driveOverlap b s = .next { s with overlap := b } := by
  rw [driveOverlap, if_neg]
  obtain h | h := h <;> simp [h]

/-- Overlap that begins while a frame runs is refused (R237, U10). -/
theorem driveOverlap_refused {s : State} (h : busy s = true) :
    driveOverlap true s = .refused .overlappingImages := by
  rw [driveOverlap, if_pos (by simpa using h)]

end Sys2Proof.Machine

namespace Sys2Proof

open Machine

/-- Settles O30: a transaction leaves both images whole. -/
theorem transactionsLeaveImages : Obligations.TransactionsLeaveImages := by
  intro i s t h c
  obtain ⟨hdst, hsrc⟩ := exec_images h
  rw [hdst, hsrc]
  exact ⟨rfl, rfl⟩

/-- Settles O60: the store reads back at its own pixel alone, and the rest is the record of a breach, or none. -/
theorem sourceAndOverlapEvents : Obligations.SourceAndOverlapEvents := by
  intro s
  refine ⟨fun c p => ⟨changeSource c p s, rfl, ?_, fun d hd => ?_, ?_⟩, fun hb => ?_,
    fun _ => driveOverlap_allowed, driveOverlap_refused⟩
  · rw [changeSource_src, srcAt_write_same]
  · rw [changeSource_src, srcAt_write_other _ _ _ _ hd]
  · rw [changeSource_src, changeSource_eq]
    rfl
  · exact congrArg _ (breachDuty_idle hb)

end Sys2Proof
end

section
/-! PROOFS. The encoding (30_encoding.md R80 to R84): what the decoder makes of the fields of a word, that its
tables invert the encoder, and the command word table; O1, O2, O3, O4, O5. -/

namespace Sys2Proof

open Machine

/-! ### The decoder on the fields of a word -/

@[simp] theorem decode_mk_write (offset : BitVec 8) (data : Word) :
    decode (Transaction.mk true offset data) = decodeWrite offset data := by
  simp [decode]

@[simp] theorem decode_mk_read (offset : BitVec 8) (data : Word) :
    decode (Transaction.mk false offset data) = decodeRead offset := by
  simp [decode]

theorem toNat_mod_eight_eq_zero {offset : BitVec 8} (h : offset.extractLsb' 0 3 = 0) : offset.toNat % 8 = 0 := by
  simpa using congrArg BitVec.toNat h

/-- A row's OFFSET is the numeral the table matches. -/
theorem mk_eq_of_toNat {offset : BitVec 8} {n : Nat} (h : offset.toNat = n) (we : Bool) (data : Word) :
    Transaction.mk we (BitVec.ofNat 8 n) data = Transaction.mk we offset data := by
  rw [← h, BitVec.ofNat_toNat, BitVec.setWidth_eq]

/-! ### The command words -/

/-- The row of CMD is the command table (R83). -/
theorem decode_mk_command (word : Word) : decode (Transaction.mk true 0x50 word) = .ok (decodeCommand word) :=
  decode_mk_write _ _

/-- A well-formed reserved command carries neither PIXEL's word nor FRAME's (R83, R84). -/
theorem decodeCommand_reserved {word : Word} (h : (Instr.cmdReserved word).wf = true) :
    decodeCommand word = .cmdReserved word := by
  obtain ⟨hpixel, hframe⟩ : word ≠ pixelWord ∧ word ≠ frameWord := by simpa [Instr.wf] using h
  rw [decodeCommand, if_neg hpixel, if_neg hframe]

theorem encode_decodeCommand (word : Word) : encode (decodeCommand word) = Transaction.mk true 0x50 word := by
  unfold decodeCommand
  split
  · next h => rw [h]; rfl
  · split
    · next h => rw [h]; rfl
    · rfl

/-- The two fields of a command word fix it (R84). -/
theorem commandFields_iff (word : Word) (opcode : BitVec 8) :
    (word.extractLsb' 8 56 = 0 ∧ word.extractLsb' 0 8 = opcode) ↔ word = opcode.setWidth 64 := by
  simp only [← BitVec.toNat_inj, BitVec.extractLsb'_toNat, BitVec.toNat_setWidth, Nat.shiftRight_eq_div_pow,
    BitVec.ofNat_eq_ofNat, BitVec.toNat_ofNat]
  omega

/-! ### The tables invert the encoder -/

/-- On a slot the read table has a row, and its instruction encodes back to the read of that slot (R81, R83). -/
theorem decodeRead_aligned {offset : BitVec 8} (h : offset.toNat % 8 = 0) :
    ∃ i, decodeRead offset = .ok i ∧ i.wf = true ∧ encode i = Transaction.mk false offset 0 := by
  unfold decodeRead
  split
  case h_33 => simp only [imp_false] at *; omega
  all_goals next hrow => exact ⟨_, rfl, rfl, mk_eq_of_toNat hrow _ _⟩

/-- On a slot the write table has a row, and its instruction encodes back to the write it is (R81, R83, R84). -/
theorem decodeWrite_aligned {offset : BitVec 8} (h : offset.toNat % 8 = 0) (data : Word) :
    ∃ i, decodeWrite offset data = .ok i ∧ i.wf = true ∧ encode i = Transaction.mk true offset data := by
  unfold decodeWrite
  split
  case h_33 => simp only [imp_false] at *; omega
  case h_11 hrow =>
    exact ⟨_, rfl, decodeCommand_wf data, (encode_decodeCommand data).trans (mk_eq_of_toNat hrow _ _)⟩
  all_goals next hrow => exact ⟨_, rfl, rfl, mk_eq_of_toNat hrow _ _⟩

/-- A word on a slot decodes, and its instruction encodes back to it but for the ignored DATA of a read (R80, R83). -/
theorem decode_aligned {tw : Transaction} (h : (Transaction.offset tw).extractLsb' 0 3 = 0) :
    ∃ i, decode tw = .ok i ∧ i.wf = true ∧
      encode i = if Transaction.we tw then tw else Transaction.mk false (Transaction.offset tw) 0 := by
  have hmod := toNat_mod_eight_eq_zero h
  unfold decode
  split
  · next hwe =>
    have hfields := Transaction.mk_fields tw
    rw [hwe] at hfields
    simpa only [hfields] using decodeWrite_aligned hmod (Transaction.data tw)
  · exact decodeRead_aligned hmod

/-- Only the words on a slot decode (R58, R83). -/
theorem offset_aligned_of_decode {tw : Transaction} {i : Instr} (h : decode tw = .ok i) :
    (Transaction.offset tw).extractLsb' 0 3 = 0 := by
  by_contra hoff
  cases h.symm.trans (decode_unaligned hoff)

/-- Settles O1: the table has, at the fields of each constructor's word, that constructor's row; a reserved
command's is the last row of the command table. -/
theorem decodeOfEncode : Obligations.DecodeOfEncode := by
  intro i hwf
  cases i
  case cmdReserved word =>
    exact (decode_mk_command word).trans (congrArg Except.ok (decodeCommand_reserved hwf))
  all_goals simp only [encode, decode_mk_write, decode_mk_read]; rfl

/-- Settles O2: the tables hold a row for every slot and for no other OFFSET. -/
theorem decodeTotalOnAlignedOffsets : Obligations.DecodeTotalOnAlignedOffsets := by
  intro tw
  split
  · next h =>
    obtain ⟨i, hdec, hwf, -⟩ := decode_aligned h
    exact ⟨i, hdec, hwf⟩
  · next h => exact decode_unaligned h

/-- Settles O3: a word that decodes is on a slot, and the instruction of its row encodes back. -/
theorem encodeOfDecode : Obligations.EncodeOfDecode := by
  intro tw i hi
  obtain ⟨j, hj, -, henc⟩ := decode_aligned (offset_aligned_of_decode hi)
  cases hi.symm.trans hj
  exact henc

/-- Settles O4: the command table compares whole words, and the two fields fix the word. -/
theorem commandWords : Obligations.CommandWords := by
  intro word
  have hpixel : _ ↔ word = pixelWord := commandFields_iff word 0x01
  have hframe : _ ↔ word = frameWord := commandFields_iff word 0x02
  simp only [hpixel, hframe, decode_mk_command, decodeCommand, apply_ite Except.ok]

/-- Settles O5: each word is the encoding of its instruction, which decodes back by O1. -/
theorem sampleWordsDecode : Obligations.SampleWordsDecode :=
  ⟨decodeOfEncode .rdId rfl, decodeOfEncode (.wrPixIn 0xFF008042000112FF) rfl, decodeOfEncode .cmdPixel rfl,
    decodeOfEncode .cmdFrame rfl, decodeOfEncode (.cmdReserved 0x102) rfl, decodeOfEncode .rdRsvdF8 rfl⟩

end Sys2Proof
end

section
/-! PROOFS. The operands of a running frame: no step but a reset changes them (R115, R141); O31. -/

namespace Sys2Proof.Machine

open Sys2Proof

/-- The operands of a frame are in `t` as in `s` (R115). -/
structure SameOperands (s t : State) : Prop where
  loss : t.loss = s.loss
  gamma : t.gamma = s.gamma
  lut : t.lut = s.lut
  frameMin : t.frameMin = s.frameMin
  frameMax : t.frameMax = s.frameMax

theorem SameOperands.refl (s : State) : SameOperands s s := ⟨rfl, rfl, rfl, rfl, rfl⟩

theorem SameOperands.trans {s t u : State} (h : SameOperands s t) (h' : SameOperands t u) : SameOperands s u :=
  ⟨h'.loss.trans h.loss, h'.gamma.trans h.gamma, h'.lut.trans h.lut, h'.frameMin.trans h.frameMin,
    h'.frameMax.trans h.frameMax⟩

theorem breachDuty_sameOperands (s : State) : SameOperands s (breachDuty s) := by
  constructor <;> simp

theorem driveSrcPresent_sameOperands (b : Bool) (s : State) : SameOperands s (driveSrcPresent b s) := by
  unfold driveSrcPresent
  split
  · exact { SameOperands.refl s with }
  · constructor <;> simp

theorem driveSrcHp_sameOperands (b : Bool) (s : State) : SameOperands s (driveSrcHp b s) := by
  unfold driveSrcHp
  split
  · exact { SameOperands.refl s with }
  · constructor <;> simp

theorem changeSource_sameOperands (c : Coord) (p : SrcPixel) (s : State) :
    SameOperands s (changeSource c p s) := by
  rw [changeSource_eq]
  split <;> exact { SameOperands.refl s with }

theorem driveOverlap_sameOperands {b : Bool} {s t : State} (h : driveOverlap b s = .next t) :
    SameOperands s t := by
  unfold driveOverlap at h
  split at h
  · cases h
  · cases h; exact { SameOperands.refl s with }

theorem retire_sameOperands (c : Coord) (s : State) : SameOperands s (retire c s) := by
  obtain ⟨-, h⟩ | ⟨-, h⟩ := retire_cases c s <;> rw [h] <;> exact { SameOperands.refl s with }

/-- A sequencer step writes a pixel and may end the frame; it reads the operands only (R173, R174). -/
theorem sequencerStep_sameOperands (P : Params) (k : Nat) (s : State) :
    SameOperands s (sequencerStep P k s) := by
  cases h : picked s k with
  | none => simpa [sequencerStep, h] using SameOperands.refl s
  | some c =>
    rw [sequencerStep_picked P h]
    have hwrite : SameOperands s (frameWrite P c s) := by constructor <;> simp
    exact hwrite.trans (retire_sameOperands c _)

/-- While a frame runs, the register port refuses the writes to its operands (R141); reset apart, no other event
reaches them. -/
theorem runEvent_sameOperands {e : Event} {s t : State} (h : runEvent e s = .next t) (hb : busy s = true)
    (hreset : e ≠ .reset) : SameOperands s t := by
  cases e with
  | transaction tw =>
    obtain ⟨hloss, hgamma, hlut, hmin, hmax, -⟩ := runTransaction_while_busy hb h
    exact ⟨hloss, hgamma, hlut, hmin, hmax⟩
  | bus a =>
    obtain ⟨hloss, hgamma, hlut, hmin, hmax, -⟩ := busEvent_while_busy hb h
    exact ⟨hloss, hgamma, hlut, hmin, hmax⟩
  | sequencer k => cases h; exact sequencerStep_sameOperands _ k s
  | srcPresent b => cases h; exact driveSrcPresent_sameOperands b s
  | srcHp b => cases h; exact driveSrcHp_sameOperands b s
  | srcWrite c p => cases h; exact changeSource_sameOperands c p s
  | srcSideEffect => cases h; exact breachDuty_sameOperands s
  | dstRead c sees => cases h; constructor <;> simp
  | dstWrite c v survives => cases h; constructor <;> simp
  | overlap b => exact driveOverlap_sameOperands h
  | reset => exact absurd rfl hreset

end Sys2Proof.Machine

namespace Sys2Proof

open Machine

/-- Settles O31: the event keeps the operands, and taking it out of the schedule touches none of them. -/
theorem runningFrameKeepsItsOperands : Obligations.RunningFrameKeepsItsOperands := by
  intro s t hb hreset h
  rw [step, nextEvent_frame] at h
  obtain ⟨hloss, hgamma, hlut, hmin, hmax⟩ := runEvent_sameOperands h hb hreset
  exact ⟨hloss, hgamma, hlut, hmin, hmax⟩

end Sys2Proof
end

section
/-! PROOFS. Binary64 quotients by zero and comparisons with the values at the ends of the order (00_scope.md
R14), with POSITION and SELECT over them (40_datapath.md R111, R112); O53, O54. -/

namespace Sys2Proof.Machine

open Sys2Proof

/-! ### Quotients with a zero operand -/

theorem units_ne_zero_of_forder {a : F64} (h : forder a ≠ 0) : units a ≠ 0 := by
  intro hu
  have hmag : fmag a = 0 := (units_eq_zero_iff a).1 hu
  simp [forder, hmag] at h

/-- A value that is neither NaN nor zero, over `+0.0`, is infinity with its sign (R14). -/
theorem fdiv_fzero_right {a : F64} (hn : isNan a = false) (h0 : forder a ≠ 0) :
    fdiv a fzero = fpack (fneg a) infMag := by
  have hz : isNan fzero = false ∧ isInf fzero = false ∧ fneg fzero = false ∧ units fzero = 0 := by decide
  obtain ⟨hznan, hzinf, hzneg, hzunits⟩ := hz
  simp [fdiv, hn, hznan, hzinf, hzneg, hzunits, units_ne_zero_of_forder h0]

/-- `+0.0` over anything is a zero or NaN (R14). -/
theorem fdiv_fzero_left (b : F64) : isNan (fdiv fzero b) = true ∨ forder (fdiv fzero b) = 0 := by
  have hz : isNan fzero = false ∧ isInf fzero = false ∧ units fzero = 0 := by decide
  obtain ⟨hznan, hzinf, hzunits⟩ := hz
  have zero : ∀ neg, forder (fpack neg 0) = 0 := by decide
  cases hbn : isNan b with
  | true => exact .inl (by simp [fdiv, hbn, isNan_fnan])
  | false =>
    cases hbi : isInf b with
    | true => exact .inr (by simp [fdiv, hznan, hzinf, hbn, hbi, zero])
    | false =>
      by_cases hbu : units b = 0
      · exact .inl (by simp [fdiv, hznan, hzinf, hzunits, hbn, hbi, hbu, isNan_fnan])
      · exact .inr (by simp [fdiv, hznan, hzinf, hzunits, hbn, hbi, hbu, roundMag_zero, zero])

theorem fneg_of_forder_pos {a : F64} (h : 0 < forder a) : fneg a = false := by
  cases hn : fneg a with
  | false => rfl
  | true => simp only [forder, hn, if_true] at h; omega

theorem fneg_of_forder_neg {a : F64} (h : forder a < 0) : fneg a = true := by
  cases hn : fneg a with
  | true => rfl
  | false => simp only [forder, hn, Bool.false_eq_true, if_false] at h; omega

/-! ### POSITION over a zero denominator -/

section
variable {fs fl fu : F64} (hden : fsub fu fl = fzero)
include hden

theorem position_zero_zero (h : fsub fs fl = 0x0000000000000000 ∨ fsub fs fl = 0x8000000000000000) :
    isNan (position fs fl fu) = true := by
  rw [position, hden]
  obtain h | h := h <;> rw [h] <;> decide

theorem position_pos_zero (h : fgt (fsub fs fl) fzero = true) : position fs fl fu = 0x7FF0000000000000 := by
  obtain ⟨hn, -, hpos⟩ := (fgt_iff _ _).1 h
  rw [forder_fzero] at hpos
  rw [position, hden, fdiv_fzero_right hn (by omega), fneg_of_forder_pos hpos]
  decide

theorem position_neg_zero (h : fgt fzero (fsub fs fl) = true) : position fs fl fu = 0xFFF0000000000000 := by
  obtain ⟨-, hn, hneg⟩ := (fgt_iff _ _).1 h
  rw [forder_fzero] at hneg
  rw [position, hden, fdiv_fzero_right hn (by omega), fneg_of_forder_neg hneg]
  decide

end

/-! ### SELECT -/

theorem fgt_irrefl (a : F64) : fgt a a = false := by simp [fgt]

/-- `+inf` exceeds every finite value. -/
theorem fgt_inf_of_finite {n : F64} (h : IsFinite n) : fgt 0x7FF0000000000000 n = true := by
  have hinf : isNan 0x7FF0000000000000 = false ∧ forder 0x7FF0000000000000 = infMag := by decide
  obtain ⟨hnan, horder⟩ := hinf
  have hlt : forder n < infMag := by
    unfold IsFinite at h
    unfold forder
    split <;> omega
  exact (fgt_iff _ _).2 ⟨hnan, h.not_nan, by omega⟩

/-- A value that is not positive exceeds none that is not negative. -/
theorem fgt_of_nonpos {p n : F64} (hp : forder p ≤ 0) (hn : fle fzero n = true) : fgt p n = false := by
  obtain ⟨-, -, h0⟩ := (fle_iff _ _).1 hn
  rw [forder_fzero] at h0
  rw [Bool.eq_false_iff, ne_eq, fgt_iff]
  omega

theorem isFinite_of_not_special {n : F64} (hnan : isNan n = false) (hinf : isInf n = false) : IsFinite n := by
  simp only [isNan, isInf, decide_eq_false_iff_not, beq_eq_false_iff_ne] at hnan hinf
  unfold IsFinite
  omega

theorem select_upper {pos n : F64} (h : fgt pos n = true) (lower upper : Sample8) :
    select pos n lower upper = upper := if_pos h

theorem select_lower {pos n : F64} (h : fgt pos n = false) (lower upper : Sample8) :
    select pos n lower upper = lower := if_neg (by simp [h])

end Sys2Proof.Machine

namespace Sys2Proof

open Machine

/-- Settles O53: a zero numerator gives 0/0, another one an infinity of its sign. -/
theorem positionOverZero : Obligations.PositionOverZero := fun _ _ _ =>
  ⟨rfl, fun hden => ⟨position_zero_zero hden, position_pos_zero hden, position_neg_zero hden⟩⟩

/-- Settles O54: each corner case is a fact about `fgt`. -/
theorem comparatorIsStrict : Obligations.ComparatorIsStrict := by
  intro pos n lower upper
  refine ⟨fun h => select_upper h _ _, fun h => select_lower h _ _, fun h => select_lower (fgt_nan_left h) _ _,
    select_lower (fgt_irrefl n) _ _, fun hnan hinf => ?_, fun hn => ?_⟩
  · exact select_upper (fgt_inf_of_finite (isFinite_of_not_special hnan hinf)) _ _
  · have lower_of {p : F64} (hp : forder p ≤ 0) : select p n lower upper = lower :=
      select_lower (fgt_of_nonpos hp hn) _ _
    exact ⟨lower_of (by decide), lower_of (by decide), lower_of (by decide)⟩

end Sys2Proof
end

section
/-! PROOFS. The stages of the datapath (40_datapath.md R102 to R116): bracket, noise index, linearizer, channel
and pixel; O47, O48, O49, O50, O51, O52, O55, O56, O57. -/

namespace Sys2Proof.Machine

open Sys2Proof

/-! ### BRACKET -/

theorem maxIndex_le (L : Level) : maxIndex L ≤ 255 := by
  decide +revert

theorem bracket_eq_ite (P : Params) (L : Level) (v : Sample8) : bracket P L v =
    if expand P L (lowIndex L v + 1) ≤ v then (expand P L (lowIndex L v + 1), expand P L (lowIndex L v + 2))
    else (expand P L (lowIndex L v), expand P L (lowIndex L v + 1)) := by
  simp only [bracket, bracketIndex, advances, decide_eq_true_eq]
  split <;> rfl

/-- The bracket depends on the entries of the row up to `M(L)` alone (R106). -/
theorem bracket_congr {P Q : Params} {L : Level} {v : Sample8} (hv : v ≠ 255)
    (h : ∀ i, i ≤ maxIndex L → expand P L i = expand Q L i) : bracket P L v = bracket Q L v := by
  have hmax := lowIndex_add_two_le L hv
  rw [bracket_eq_ite, bracket_eq_ite, h (lowIndex L v) (by omega), h (lowIndex L v + 1) (by omega), h _ hmax]

/-! ### NOISEINDEX -/

theorem toNat_low_four (x : BitVec 32) : ((x.extractLsb' 0 4).toNat : Int) = x.toInt % 16 := by
  have := x.isLt
  rw [BitVec.extractLsb'_toNat, BitVec.toInt_eq_toNat_cond]
  split <;> omega

theorem low_four_eq_iff (x y : BitVec 32) :
    x.extractLsb' 0 4 = y.extractLsb' 0 4 ↔ x.toInt % 16 = y.toInt % 16 := by
  rw [← toNat_low_four, ← toNat_low_four, ← BitVec.toNat_inj, Int.natCast_inj]

theorem low_four_add_sixteen (x : BitVec 32) : (x + 16).extractLsb' 0 4 = x.extractLsb' 0 4 := by
  simp [← BitVec.setWidth_eq_extractLsb', BitVec.setWidth_add]

/-- The noise index of a coordinate is that of any other with the same remainders by 16 (R107). -/
theorem noiseIndex_congr {c d : Coord} (hx : c.x.toInt % 16 = d.x.toInt % 16)
    (hy : c.y.toInt % 16 = d.y.toInt % 16) : noiseIndex c = noiseIndex d :=
  Prod.ext ((low_four_eq_iff _ _).2 hy) ((low_four_eq_iff _ _).2 hx)

/-! ### LIN -/

theorem lin_none (P : Params) (G : F64) (v : Sample8) : lin P none G v = linPower P G v := rfl

theorem lin_lutTable (P : Params) (G : F64) (v : Sample8) : lin P (some (lutTable P G)) G v = linPower P G v :=
  lutTable_get P G v v.isLt

/-- LIN(0) (R109, POW_ZERO of R7). -/
theorem linPower_zero (P : Params) {G : F64} (hG : fgt G fzero = true) : linPower P G 0 = fzero := by
  rw [linPower, unitValue_zero, pow_fzero_left P hG]

/-- LIN(255) (R109, POW_ONE of R7). -/
theorem linPower_white (P : Params) (G : F64) : linPower P G 255 = fone := by
  rw [linPower, unitValue_white, pow_fone_left]

/-! ### The channel function -/

/-- The channel function reads the LUT through the linearizer alone, so the LUT variant dithers like the other
(R110). -/
theorem channel_lutFill (P : Params) (L : Level) (G n : F64) (s16 : Sample16) :
    channel P (lutFill P G) L G n s16 = channel P none L G n s16 := by
  by_cases h : trunc s16 = 255
  · rw [channel_white _ _ _ _ _ h, channel_white _ _ _ _ _ h]
  · simp only [channel_bracket _ _ _ _ _ h, lin_lutFill, lin_none]

theorem expand_level_zero (P : Params) (v : Sample8) : expand P 0 v.toNat = v := by
  rw [expand, if_pos rfl, BitVec.ofNat_toNat, BitVec.setWidth_eq]

/-- On row 0, the identity, the bracket of a sample starts at the sample itself: 0 does not advance, and every other
sample advances from the entry below it (R8, R103 to R105). -/
theorem bracketIndex_level_zero (P : Params) (v : Sample8) : bracketIndex P 0 v = v.toNat := by
  have hlow : lowIndex 0 v = v.toNat - 1 := by
    simp only [lowIndex, shifted, BitVec.ofNat_eq_ofNat, BitVec.toNat_ofNat, Nat.zero_mod, Nat.shiftRight_zero]
    split <;> omega
  obtain h0 | hpos := Nat.eq_zero_or_pos v.toNat
  · obtain rfl : v = 0 := BitVec.eq_of_toNat_eq h0
    rfl
  · have hadv : advances P 0 v = true := by
      rw [advances, hlow, Nat.sub_add_cancel hpos, expand_level_zero, decide_eq_true_eq]
      exact BitVec.le_refl v
    rw [bracketIndex, if_pos hadv, hlow, Nat.sub_add_cancel hpos]

theorem bracket_level_zero_lower (P : Params) (v : Sample8) : (bracket P 0 v).1 = v := by
  rw [bracket, bracketIndex_level_zero, expand_level_zero]

/-- A finite value at the lower end of its bracket selects the lower endpoint: its position is a zero or NaN
(R111, R112). -/
theorem fgt_position_lower {fl n : F64} (hl : IsFinite fl) (hn : fle fzero n = true) (fu : F64) :
    fgt (position fl fl fu) n = false := by
  rw [position, fsub_self hl]
  obtain hnan | hzero := fdiv_fzero_left (fsub fu fl)
  · exact fgt_nan_left hnan
  · exact fgt_of_nonpos (Int.le_of_eq hzero) hn

/-- At level 0 the channel function keeps the high byte (R116). -/
theorem channel_level_zero (P : Params) {G n : F64} (hG : fgt G fzero = true) (hn : fle fzero n = true)
    (s16 : Sample16) : channel P (lutFill P G) 0 G n s16 = trunc s16 := by
  by_cases h : trunc s16 = 255
  · rw [channel_white _ _ _ _ _ h, h]
  · have hfinite := finite_of_inUnit (inUnit_lin_lutFill P hG (trunc s16))
    rw [channel_bracket _ _ _ _ _ h, bracket_level_zero_lower]
    exact select_lower (fgt_position_lower hfinite hn _) _ _

/-! ### PIX -/

open BitVec in
/-- The four bytes of a pixel: R, G, B, A from the low one (R56). -/
theorem packPixel_bytes (r g b a : Sample8) :
    (packPixel r g b a).extractLsb' 0 8 = r ∧ (packPixel r g b a).extractLsb' 8 8 = g ∧
      (packPixel r g b a).extractLsb' 16 8 = b ∧ (packPixel r g b a).extractLsb' 24 8 = a := by
  refine ⟨extractLsb'_append_eq_right, ?_, ?_, ?_⟩
  · exact (extractLsb'_append_eq_of_le (by decide)).trans extractLsb'_append_eq_right
  · exact (extractLsb'_append_eq_of_le (by decide)).trans <|
      (extractLsb'_append_eq_of_le (by decide)).trans extractLsb'_append_eq_right
  · exact (extractLsb'_append_eq_of_le (by decide)).trans <|
      (extractLsb'_append_eq_of_le (by decide)).trans extractLsb'_append_eq_left

theorem pix_eq_packPixel (P : Params) (lut : Option Lut) (L : Level) (G : F64) (c : Coord) (p : SrcPixel) :
    pix P lut L G c p = packPixel (channel P lut L G (noiseAt P c) (p.extractLsb' 0 16))
      (channel P lut L G (noiseAt P c) (p.extractLsb' 16 16)) (channel P lut L G (noiseAt P c) (p.extractLsb' 32 16))
      (channel P lut L G (noiseAt P c) (p.extractLsb' 48 16)) := rfl

end Sys2Proof.Machine

namespace Sys2Proof

open Machine

/-- Settles O49: the highest index is two above the low one, and the bracket reads no other entries. -/
theorem bracketIndexRange : Obligations.BracketIndexRange :=
  ⟨fun L _ hv => ⟨lowIndex_add_two_le L hv, maxIndex_le L⟩, fun _ _ _ _ => bracket_congr⟩

/-- Settles O50: the low four bits of a two's complement word are its remainder by 16. -/
theorem noiseIndexIsMod16 : Obligations.NoiseIndexIsMod16 := fun c =>
  ⟨toNat_low_four c.y, toNat_low_four c.x, Prod.ext rfl (low_four_add_sixteen c.x),
    Prod.ext (low_four_add_sixteen c.y) rfl⟩

/-- Settles O51: the filled table holds the power law, which is all a channel reads of it. -/
theorem lutGivesPowerLaw : Obligations.LutGivesPowerLaw := by
  intro P L G c p
  refine ⟨fun _ _ => rfl, lin_lutTable P G, ?_⟩
  simp only [pix_eq_packPixel, channel_lutFill]

/-- Settles O52: the four properties of R7, at the operands of the power law. -/
theorem linearizerEndpoints : Obligations.LinearizerEndpoints := fun P G =>
  ⟨fun _ => rfl, linPower_zero P, linPower_white P G, fun v => pow_fone_right P (unitValue v),
    fun hG => inUnit_linPower P hG⟩

/-- Settles O56: the pixel function reads the coordinate through the noise index alone. -/
theorem pixelDependsOnCoordinateMod16 : Obligations.PixelDependsOnCoordinateMod16 := by
  intro P lut L G c d p hx hy
  have hnoise : noiseAt P c = noiseAt P d := by rw [noiseAt, noiseAt, noiseIndex_congr hx hy]
  rw [pix_eq_packPixel, pix_eq_packPixel, hnoise]

/-- Settles O57: at level 0 a sample is the lower end of its own bracket, which is selected. -/
theorem lossinessZeroIsIdentity : Obligations.LossinessZeroIsIdentity := fun P _ _ s16 hG hn =>
  channel_level_zero P hG hn s16

/-- Settles O47: the bypass comes before every other stage. -/
theorem whiteIsBypassed : Obligations.WhiteIsBypassed := fun P lut L G n _ h =>
  channel_white P lut L G n h

/-- Settles O48: the pair at the bracket's index, written out for the advance and without it. -/
theorem bracketSelector : Obligations.BracketSelector := fun P L v _ => bracket_eq_ite P L v

/-- Settles O55: the bytes of the packed pixel are its four channels. -/
theorem pixelFunction : Obligations.PixelFunction := fun _ _ _ _ _ _ => packPixel_bytes _ _ _ _

end Sys2Proof
end

section
/-! PROOFS. The register transactions of 41_register_ops.md: the shared operation each of them is, the words
STATUS and ID answer with, the words GAMMA takes, and O9 to O19. -/

namespace Sys2Proof.Machine

open Sys2Proof Sys2Proof.Safety

/-! ### The transactions, each by its operation -/

/-- A busy block refuses every guarded write, whatever it would have written (R141, R204). -/
theorem exec_guarded_busy {i : Instr} {s : State} (hi : isGuarded i = true) (hb : busy s = true) :
    exec i s = .next (reject s) := by
  cases i with
  | wrLoss d => rw [exec_wrLoss, guarded_busy _ _ hb]
  | wrGamma d => rw [exec_wrGamma, guarded_busy _ _ hb]
  | wrFrameMin d => rw [exec_wrFrameMin, guarded_busy _ _ hb]
  | wrFrameMax d => rw [exec_wrFrameMax, guarded_busy _ _ hb]
  | cmdPixel => rw [exec_cmdPixel, guarded_busy _ _ hb]
  | cmdFrame => rw [exec_cmdFrame, guarded_busy _ _ hb]
  | cmdReserved w => rw [exec_cmdReserved, guarded_busy _ _ hb]
  | _ => cases hi

theorem exec_wrLoss_idle {s : State} (hb : busy s = false) (d : Word) :
    exec (.wrLoss d) s = .next { s with loss := clampLoss d } := by
  rw [exec_wrLoss, guarded_idle _ _ hb]

theorem exec_wrGamma_idle {s : State} (hb : busy s = false) (d : Word) :
    exec (.wrGamma d) s = .next (storeGamma Config.params d s) := by
  rw [exec_wrGamma, guarded_idle _ _ hb]

theorem exec_wrFrameMin_idle {s : State} (hb : busy s = false) (d : Word) :
    exec (.wrFrameMin d) s = .next { s with frameMin := d } := by
  rw [exec_wrFrameMin, guarded_idle _ _ hb]

theorem exec_wrFrameMax_idle {s : State} (hb : busy s = false) (d : Word) :
    exec (.wrFrameMax d) s = .next { s with frameMax := d } := by
  rw [exec_wrFrameMax, guarded_idle _ _ hb]

theorem exec_wrStatus (d : Word) (s : State) : exec (.wrStatus d) s = .next (clearStatus d s) := rfl

/-- A write of IRQEN is never refused (R145). -/
theorem exec_wrIrqen (d : Word) (s : State) : exec (.wrIrqen d) s = .next { s with irqen := irqenOf d } := rfl

/-- The 21 reserved reads are one operation (R163). -/
theorem exec_reservedRead {i : Instr} (h : i ∈ reservedReads) (s : State) : exec i s = readReserved s := by
  have hall : reservedReads.map (exec · s) = List.replicate 21 (readReserved s) := rfl
  exact List.eq_of_mem_replicate (hall ▸ List.mem_map_of_mem h)

/-- The 21 reserved writes are one operation (R163). -/
theorem exec_reservedWrite {i : Instr} {data : Word} (h : i ∈ reservedWrites data) (s : State) :
    exec i s = writeReserved data s := by
  have hall : (reservedWrites data).map (exec · s) = List.replicate 21 (writeReserved data s) := rfl
  exact List.eq_of_mem_replicate (hall ▸ List.mem_map_of_mem h)

/-- A flag after a write-one-to-clear, as the choice R143 words it. -/
theorem and_not_eq_ite (flag bit : Bool) : (flag && !bit) = if bit then false else flag := by
  cases bit <;> simp

/-- The write of STATUS by the bits of its word (R143). -/
theorem clearStatus_eq (d : Word) (s : State) : clearStatus d s = { s with
    done := if d.getLsbD 1 then false else s.done
    err := if d.getLsbD 2 then false else s.err
    errCode := if d.getLsbD 2 then 0 else s.errCode
    rej := if d.getLsbD 3 then false else s.rej } := by
  simp only [← and_not_eq_ite]
  rfl

/-- Bit `k` of IRQEN after its write is bit `k` of the word (R145). -/
theorem getLsbD_irqenOf (d : Word) {k : Nat} (hk : k < 3) : (irqenOf d).getLsbD k = d.getLsbD k := by
  simp [irqenOf, hk]

/-! ### The words STATUS and ID answer with -/

/-- The STATUS word, bit by bit (R24, R142). -/
theorem getLsbD_statusWord (s : State) (n : Nat) : (statusWord s).getLsbD n =
    if n = 0 then busy s else if n = 1 then s.done else if n = 2 then s.err else if n = 3 then s.rej
    else if 8 ≤ n ∧ n < 12 then s.errCode.getLsbD (n - 8)
    else if n = 16 then s.srcPresent else if n = 17 then s.srcHp else false := by
  simp only [statusWord, BitVec.truncate_eq_setWidth, BitVec.getLsbD_setWidth]
  by_cases hn : n < 18
  · simp only [BitVec.getLsbD_append]
    interval_cases n <;> simp
  · rw [BitVec.getLsbD_of_ge _ n (by omega)]
    simp (disch := omega) only [if_neg, Bool.and_false]

/-- ERRCODE stands in bits 11:8 (R24). -/
theorem statusWord_errCode (s : State) : (statusWord s).extractLsb' 8 4 = s.errCode := by
  refine BitVec.eq_of_getLsbD_eq fun k hk => ?_
  rw [BitVec.getLsbD_extractLsb', getLsbD_statusWord]
  simp (disch := omega) [hk, if_neg, if_pos]

/-- A field of STATUS that meets no flag, no input and not ERRCODE reads 0 (R24). -/
theorem statusWord_reserved (s : State) {lo len : Nat}
    (h : ∀ n, lo ≤ n → n < lo + len → (4 ≤ n ∧ n < 8) ∨ (12 ≤ n ∧ n < 16) ∨ 18 ≤ n) :
    (statusWord s).extractLsb' lo len = 0 := by
  refine BitVec.eq_of_getLsbD_eq fun k hk => ?_
  have := h (lo + k) (by omega) (by omega)
  rw [BitVec.getLsbD_extractLsb', getLsbD_statusWord]
  simp (disch := omega) [if_neg]

/-- The ID word of the POWER variant (R161). -/
theorem idWord_power {P : Params} (h : P.linearizer = .power) : idWord P = 0x0000000000000001 := by
  rw [idWord, h]; rfl

/-- The ID word of the LUT variant (R161). -/
theorem idWord_lut {P : Params} (h : P.linearizer = .lut) : idWord P = 0x0000000000000101 := by
  rw [idWord, h]; rfl

/-! ### The word GAMMA takes -/

/-- With a sign of 0 the encoding is its magnitude. -/
theorem fmag_of_nonneg {a : F64} (h : fneg a = false) : fmag a = a.toNat := by
  have hlt : ¬ 2 ^ 63 ≤ a.toNat := by simpa [h] using fneg_eq a
  exact Nat.mod_eq_of_lt (by omega)

/-- Greater than zero, on the encoding: sign 0, not zero, and at most the word of `+inf` (R149). -/
theorem fgt_fzero_iff (a : F64) :
    fgt a fzero = true ↔ a.getLsbD 63 = false ∧ a ≠ 0 ∧ a.toNat ≤ 0x7FF0000000000000 := by
  have hzero : isNan fzero = false := by decide
  change _ ↔ fneg a = false ∧ _
  rw [fgt_iff, forder_fzero]
  cases hs : fneg a with
  | true =>
    have hnot : ¬ 0 < forder a := fun h => Bool.noConfusion (hs.symm.trans (fneg_of_forder_pos h))
    simp [hnot]
  | false =>
    have hmag : fmag a = a.toNat := fmag_of_nonneg hs
    have hnan : isNan a = false ↔ a.toNat ≤ 0x7FF0000000000000 := by simp [isNan, infMag, hmag]
    have hord : forder a = a.toNat := by simp [forder, hs, hmag]
    have hpos : 0 < a.toNat ↔ a ≠ 0 := Nat.pos_iff_ne_zero.trans (BitVec.toNat_ne_iff_ne (y := 0))
    rw [hnan, hord, Int.natCast_pos, hpos, and_comm (a := a ≠ 0)]
    simp [hzero]

/-- The word GAMMA takes: a value greater than zero itself, GAMMA_DEFAULT for any other (R149). -/
theorem gammaOf_eq (d : Word) : gammaOf d =
    if d.getLsbD 63 = false ∧ d ≠ 0 ∧ d.toNat ≤ 0x7FF0000000000000 then d else 0x400199999999999A := by
  simp only [gammaOf, fgt_fzero_iff, gammaDefault]

end Sys2Proof.Machine

namespace Sys2Proof

open Machine Safety

/-- Settles O15: an idle block stores the word `gammaOf` picks and refills the LUT from it, by the variant. -/
theorem gammaWriteReplacesAndRefills : Obligations.GammaWriteReplacesAndRefills := by
  intro data s
  refine ⟨fun hb => ⟨_, exec_wrGamma_idle hb data, gammaOf_eq data, ?_, rfl⟩, exec_guarded_busy rfl⟩
  split
  next h => exact lutFill_power h _
  next h => exact ⟨_, lutFill_lut h _, fun v => lutTable_get ..⟩

/-- Settles O9: every read is `respond` with its register's word. -/
theorem readsAnswerAndChangeNothing : Obligations.ReadsAnswerAndChangeNothing := fun _ =>
  ⟨rfl, rfl, rfl, rfl, rfl, rfl, rfl, rfl, rfl, rfl, rfl⟩

/-- Settles O10: each field is read off the bits of the STATUS word. -/
theorem statusWordLayout : Obligations.StatusWordLayout := fun s =>
  ⟨rfl, getLsbD_statusWord s 0, getLsbD_statusWord s 1, getLsbD_statusWord s 2, getLsbD_statusWord s 3,
    statusWord_reserved s (by omega), statusWord_errCode s, statusWord_reserved s (by omega),
    statusWord_srcPresent s, statusWord_srcHp s, statusWord_reserved s (by omega)⟩

/-- Settles O11: the word has one bit to choose, the variant. -/
theorem identityWord : Obligations.IdentityWord := by
  refine ⟨fun _ => rfl, fun P => ?_⟩
  split
  next h => exact idWord_power h
  next h => exact idWord_lut h

/-- Settles O12: the write is `clearStatus`, busy or not. -/
theorem statusWriteClears : Obligations.StatusWriteClears := fun d s =>
  (exec_wrStatus d s).trans (congrArg _ (clearStatus_eq d s))

/-- Settles O13: the line reads the three bits just written. -/
theorem irqenWriteDrivesLine : Obligations.IrqenWriteDrivesLine := by
  intro d s
  refine ⟨_, exec_wrIrqen d s, rfl, ?_⟩
  simp (disch := decide) only [irq, getLsbD_irqenOf]

/-- Settles O14: an idle block stores the clamped word, a busy one refuses. -/
theorem lossWriteClamps : Obligations.LossWriteClamps := fun d _ =>
  ⟨fun hb => ⟨clampLoss d, exec_wrLoss_idle hb d, clampLoss_toNat d⟩, exec_guarded_busy rfl⟩

/-- Settles O16: neither write passes the busy guard. -/
theorem pixelOperandWrites : Obligations.PixelOperandWrites := fun _ _ => ⟨rfl, rfl⟩

/-- Settles O17: an idle block stores the corner, a busy one refuses. -/
theorem frameCornerWrites : Obligations.FrameCornerWrites := fun d _ =>
  ⟨fun hb => ⟨exec_wrFrameMin_idle hb d, exec_wrFrameMax_idle hb d⟩,
    fun hb => ⟨exec_guarded_busy rfl hb, exec_guarded_busy rfl hb⟩⟩

/-- Settles O18: each of the two writes gives back its state. -/
theorem readOnlyWritesIgnored : Obligations.ReadOnlyWritesIgnored := by
  intro d s i hi
  simp only [readOnlyWrites, List.mem_cons, List.not_mem_nil, or_false] at hi
  obtain rfl | rfl := hi
  · rfl
  · rfl

/-- Settles O19: the 21 slots share one read and one write. -/
theorem reservedSlotsReadZeroIgnoreWrites : Obligations.ReservedSlotsReadZeroIgnoreWrites := fun _ s =>
  ⟨fun _ hi => exec_reservedRead hi s, fun _ hi => exec_reservedWrite hi s⟩

end Sys2Proof
end

section
/-! PROOFS. The invariant of the machine: what the shared operations, the transactions and the events make of it,
and O45. -/

namespace Sys2Proof.Machine

open Sys2Proof Sys2Proof.Safety

/-! ### The parts of the invariant that an operation sets -/

/-- An error sets ERR together with a code from 1 to 3 (R201). -/
theorem errorCodeLegal_raiseError {code : BitVec 4} (hpos : code ≠ 0) (hmax : code.toNat ≤ 3) (s : State) :
    ErrorCodeLegal (raiseError code s) :=
  ⟨iff_of_false nofun hpos, hmax⟩

/-- The write of STATUS clears ERR and ERRCODE by the same bit (R143). -/
theorem errorCodeLegal_clearStatus {s : State} (h : ErrorCodeLegal s) (d : Word) :
    ErrorCodeLegal (clearStatus d s) := by
  unfold ErrorCodeLegal clearStatus
  cases clearsErr d with
  | true => simp
  | false => simpa [ErrorCodeLegal] using h

/-- GAMMA takes no word that is not greater than zero (R149). -/
theorem fgt_gammaOf (d : Word) : fgt (gammaOf d) fzero = true := by
  unfold gammaOf
  split
  · assumption
  · decide

theorem pendingInFrame_of_idle {s : State} (h : busy s = false) : PendingInFrame s := by
  simp [PendingInFrame, (busy_eq_false_iff s).1 h]

/-- A FRAME makes PENDING the rectangle (R172). -/
theorem startFrame_pendingInFrame (s : State) : PendingInFrame (startFrame s) :=
  ⟨rectangle_nodup _ _, fun c hc => (mem_rectangle s c).1 hc⟩

/-- While a frame runs there is nothing the record must not hold. -/
theorem recordIdle_of_busy {s : State} (h : busy s = true) : RecordIdle s :=
  fun hidle => Bool.noConfusion (h.symm.trans hidle)

/-- The end of a frame drops the record of it (R174). -/
theorem finishFrame_recordIdle (s : State) : RecordIdle (finishFrame s) := fun _ => ⟨rfl, rfl, rfl⟩

/-! ### The shared operations -/

section
variable {s : State} (h : StateInv s)
include h

theorem raiseError_stateInv {code : BitVec 4} (hpos : code ≠ 0) (hmax : code.toNat ≤ 3) :
    StateInv (raiseError code s) := by
  obtain ⟨-, hrest⟩ := h
  exact ⟨errorCodeLegal_raiseError hpos hmax s, hrest⟩

theorem clearStatus_stateInv (d : Word) : StateInv (clearStatus d s) := by
  obtain ⟨herr, hrest⟩ := h
  exact ⟨errorCodeLegal_clearStatus herr d, hrest⟩

theorem storeGamma_stateInv (d : Word) : StateInv (storeGamma Config.params d s) := by
  obtain ⟨herr, -, -, hrest⟩ := h
  exact ⟨herr, fgt_gammaOf d, rfl, hrest⟩

/-- With nothing pending the corners of the rectangle are free (R157, R159). -/
theorem storeCorners_stateInv (hb : busy s = false) (min max : Word) :
    StateInv { s with frameMin := min, frameMax := max } := by
  obtain ⟨herr, hgamma, hlut, -, hrest⟩ := h
  exact ⟨herr, hgamma, hlut, pendingInFrame_of_idle hb, hrest⟩

theorem acceptFrame_stateInv : StateInv (acceptFrame s) := by
  obtain ⟨herr, hgamma, hlut, -, ⟨hsrc, hdst, -⟩, -⟩ := h
  have hpending := startFrame_pendingInFrame s
  obtain ⟨hne, heq⟩ | ⟨-, heq⟩ := acceptFrame_cases s
  · rw [heq]
    exact ⟨herr, hgamma, hlut, hpending, ⟨hsrc, hdst, hdst⟩, recordIdle_of_busy ((busy_iff _).2 hne)⟩
  · rw [heq]
    exact ⟨herr, hgamma, hlut, hpending, ⟨hsrc, hdst, rfl⟩, finishFrame_recordIdle _⟩

theorem dstStore_stateInv (c : Coord) (v : DstPixel) : StateInv (dstStore c v s) := by
  obtain ⟨herr, hgamma, hlut, hpending, ⟨hsrc, hdst, hpre⟩, hrecord⟩ := h
  exact ⟨herr, hgamma, hlut, hpending, ⟨hsrc, memWrite_wf _ _ _ hdst, hpre⟩, hrecord⟩

theorem srcStore_stateInv (c : Coord) (p : SrcPixel) : StateInv (srcStore c p s) := by
  obtain ⟨herr, hgamma, hlut, hpending, ⟨hsrc, hdst, hpre⟩, hrecord⟩ := h
  exact ⟨herr, hgamma, hlut, hpending, ⟨memWrite_wf _ _ _ hsrc, hdst, hpre⟩, hrecord⟩

theorem frameWrite_stateInv (P : Params) (c : Coord) : StateInv (frameWrite P c s) := by
  unfold frameWrite
  split
  · exact h
  · exact dstStore_stateInv h _ _

theorem retire_stateInv (c : Coord) : StateInv (retire c s) := by
  obtain ⟨herr, hgamma, hlut, hpending, himages, -⟩ := h
  have herase := pendingInFrame_erase c s.dst hpending
  obtain ⟨hne, heq⟩ | ⟨-, heq⟩ := retire_cases c s
  · rw [heq]
    exact ⟨herr, hgamma, hlut, herase, himages, recordIdle_of_busy ((busy_iff _).2 hne)⟩
  · obtain ⟨hsrc, hdst, -⟩ := himages
    rw [heq]
    exact ⟨herr, hgamma, hlut, herase, ⟨hsrc, hdst, rfl⟩, finishFrame_recordIdle _⟩

theorem sequencerStep_stateInv (P : Params) (k : Nat) : StateInv (sequencerStep P k s) := by
  unfold sequencerStep
  split
  · exact h
  · exact retire_stateInv (frameWrite_stateInv h P _) _

/-- While a frame runs, its record may be anything. -/
theorem frameRecord_stateInv (hb : busy s = true) (kept : List Coord) (breach : Option Nat) (draws : Nat) :
    StateInv { s with kept := kept, breach := breach, draws := draws } := by
  obtain ⟨herr, hgamma, hlut, hpending, himages, -⟩ := h
  exact ⟨herr, hgamma, hlut, hpending, himages, recordIdle_of_busy hb⟩

theorem breachDuty_stateInv : StateInv (breachDuty s) := by
  unfold breachDuty
  split
  · next hb => exact frameRecord_stateInv h hb s.kept _ _
  · exact h

theorem driveSrcPresent_stateInv (b : Bool) : StateInv (driveSrcPresent b s) := by
  have hdriven : StateInv { s with srcPresent := b } := h
  unfold driveSrcPresent
  split
  · exact hdriven
  · exact breachDuty_stateInv hdriven

theorem driveSrcHp_stateInv (b : Bool) : StateInv (driveSrcHp b s) := by
  have hdriven : StateInv { s with srcHp := b } := h
  unfold driveSrcHp
  split
  · exact hdriven
  · exact breachDuty_stateInv hdriven

theorem changeSource_stateInv (c : Coord) (p : SrcPixel) : StateInv (changeSource c p s) := by
  unfold changeSource
  split
  · exact breachDuty_stateInv (srcStore_stateInv h c p)
  · exact srcStore_stateInv h c p

/-- A host write marks a coordinate only where it races with a running frame (R237). -/
theorem hostWrite_stateInv (c : Coord) (v : DstPixel) (survives : Bool) :
    StateInv (hostWrite c v survives s) := by
  have hstored := dstStore_stateInv h c v
  unfold hostWrite
  split
  · next hraces =>
    obtain ⟨hb, -⟩ : busy s = true ∧ inFrame s c = true := by simpa [races] using hraces
    split
    · exact frameRecord_stateInv hstored hb _ s.breach s.draws
    · split
      · exact hstored
      · exact h
  · exact hstored

theorem resetBlock_stateInv : StateInv (resetBlock s) := by
  obtain ⟨-, -, -, -, ⟨hsrc, hdst, -⟩, -⟩ := h
  exact ⟨⟨iff_of_true rfl rfl, Nat.zero_le 3⟩, (by decide : fgt gammaDefault fzero = true), rfl,
    pendingInFrame_of_idle rfl, ⟨hsrc, hdst, rfl⟩, fun _ => ⟨rfl, rfl, rfl⟩⟩

end

/-! ### The transactions and the events -/

/-- Every effect of a transaction keeps the invariant; most set no field it reads. -/
theorem exec_stateInv {i : Instr} {s t : State} (h : StateInv s) (hi : exec i s = .next t) : StateInv t := by
  cases exec_effect hi with
  | status d => exact clearStatus_stateInv h d
  | gamma d => exact storeGamma_stateInv h d
  | frameMin d hb => exact storeCorners_stateInv h hb d s.frameMax
  | frameMax d hb => exact storeCorners_stateInv h hb s.frameMin d
  | frameError code _ hcode =>
    obtain rfl | rfl := hcode
    · exact raiseError_stateInv h (by decide) (by decide)
    · exact raiseError_stateInv h (by decide) (by decide)
  | badCommand => exact raiseError_stateInv h (by decide) (by decide)
  | frame => exact acceptFrame_stateInv h
  | _ => exact h

theorem runTransaction_stateInv {tw : Transaction} {s t : State} (h : StateInv s)
    (hrun : runTransaction tw s = .next t) : StateInv t := by
  unfold runTransaction at hrun
  split at hrun
  · exact exec_stateInv h hrun
  · cases hrun

theorem busEvent_stateInv {a : BusAccess} {s t : State} (h : StateInv s) (hrun : busEvent a s = .next t) :
    StateInv t := by
  unfold busEvent at hrun
  split at hrun
  · cases hrun; exact h
  · cases hrun
  · exact runTransaction_stateInv h hrun

theorem driveOverlap_stateInv {b : Bool} {s t : State} (h : StateInv s) (hrun : driveOverlap b s = .next t) :
    StateInv t := by
  unfold driveOverlap at hrun
  split at hrun
  · cases hrun
  · cases hrun; exact h

theorem runEvent_stateInv {e : Event} {s t : State} (h : StateInv s) (hrun : runEvent e s = .next t) :
    StateInv t := by
  cases e with
  | transaction tw => exact runTransaction_stateInv h hrun
  | bus a => exact busEvent_stateInv h hrun
  | sequencer k => cases hrun; exact sequencerStep_stateInv h _ k
  | srcPresent b => cases hrun; exact driveSrcPresent_stateInv h b
  | srcHp b => cases hrun; exact driveSrcHp_stateInv h b
  | srcWrite c p => cases hrun; exact changeSource_stateInv h c p
  | srcSideEffect => cases hrun; exact breachDuty_stateInv h
  | dstRead c sees => cases hrun; exact h
  | dstWrite c v survives => cases hrun; exact hostWrite_stateInv h c v survives
  | overlap b => exact driveOverlap_stateInv h hrun
  | reset => cases hrun; exact resetBlock_stateInv h

/-- Taking the next event out of the schedule sets no field the invariant reads. -/
theorem nextEvent_stateInv {s : State} (h : StateInv s) : StateInv (nextEvent s).2 := by
  rw [nextEvent_frame]
  exact h

end Sys2Proof.Machine

namespace Sys2Proof

open Machine

/-- Settles O45: each event keeps the invariant, by the operation that is its meaning. -/
theorem stepKeepsInvariant : Obligations.StepKeepsInvariant :=
  fun _ _ h hstep => runEvent_stateInv (nextEvent_stateInv h) hstep

end Sys2Proof
end

section
/-! PROOFS. The commands (42_commands.md R170 to R175): what a CMD write does in an idle block, how a FRAME starts,
and O21, O22, O23, O25, O26. -/

namespace Sys2Proof.Machine

open Sys2Proof Sys2Proof.Safety

/-! ### The commands of an idle block -/

section
variable {s : State} (hb : busy s = false)
include hb

theorem exec_cmdPixel_idle : exec .cmdPixel s = .next (pixelCommand Config.params s) := by
  rw [exec_cmdPixel, guarded_idle _ _ hb]

theorem exec_cmdReserved_idle (w : Word) : exec (.cmdReserved w) s = .next (raiseError codeBadCmd s) := by
  rw [exec_cmdReserved, guarded_idle _ _ hb]

theorem exec_cmdFrame_idle : exec .cmdFrame s = frameCommand s := by
  rw [exec_cmdFrame, guarded_idle _ _ hb]

theorem exec_cmdFrame_noSource (hp : s.srcPresent = false) :
    exec .cmdFrame s = .next (raiseError codeNoSource s) := by
  simp [exec_cmdFrame_idle hb, frameCommand, hp]

theorem exec_cmdFrame_noCapability (hp : s.srcPresent = true) (hh : s.srcHp = false) :
    exec .cmdFrame s = .next (raiseError codeNoCapability s) := by
  simp [exec_cmdFrame_idle hb, frameCommand, hp, hh]

/-- A capable source, and images that do not overlap: the FRAME is accepted (R172, R237). -/
theorem exec_cmdFrame_accepted (hp : s.srcPresent = true) (hh : s.srcHp = true) (ho : s.overlap = false) :
    exec .cmdFrame s = .next (acceptFrame s) := by
  simp [exec_cmdFrame_idle hb, frameCommand, hp, hh, ho]

end

/-! ### The accepted frame -/

@[simp] theorem acceptFrame_errCode (s : State) : (acceptFrame s).errCode = s.errCode := by rw [acceptFrame_frame]

/-- Empty or not, an accepted FRAME leaves the rectangle pending (R172). -/
@[simp] theorem acceptFrame_pending (s : State) :
    (acceptFrame s).pending = rectangle s.frameMin s.frameMax := by
  obtain ⟨-, h⟩ | ⟨-, h⟩ := acceptFrame_cases s <;> rw [h] <;> rfl

/-- With a capable source, images that do not overlap and a rectangle that is not empty, FRAME starts the frame
(R172). -/
theorem exec_cmdFrame_starts {s : State} (hb : busy s = false) (hp : s.srcPresent = true) (hh : s.srcHp = true)
    (ho : s.overlap = false) (hne : rectangle s.frameMin s.frameMax ≠ []) :
    exec .cmdFrame s = .next (startFrame s) := by
  obtain ⟨-, h⟩ | ⟨hnil, -⟩ := acceptFrame_cases s
  · rw [exec_cmdFrame_accepted hb hp hh ho, h]
  · exact absurd hnil hne

/-- DONE is cleared, and set at once when there is nothing to do (R172). -/
theorem acceptFrame_done (s : State) : (acceptFrame s).done = (acceptFrame s).pending.isEmpty := by
  obtain ⟨hne, h⟩ | ⟨hnil, h⟩ := acceptFrame_cases s
  · simp [h, hne]
  · simp [h, hnil]

/-- The rectangle by the fields of its corners: signed compares (R172). -/
theorem inFrame_iff (s : State) (c : Coord) : inFrame s c = true ↔
    (s.frameMin.extractLsb' 0 32).toInt ≤ c.x.toInt ∧ c.x.toInt < (s.frameMax.extractLsb' 0 32).toInt ∧
      (s.frameMin.extractLsb' 32 32).toInt ≤ c.y.toInt ∧ c.y.toInt < (s.frameMax.extractLsb' 32 32).toInt := by
  simp only [inFrame, Bool.and_eq_true, decide_eq_true_eq, and_assoc]
  rfl

/-- A frame starts with its whole rectangle pending, so with no pixel written (R173). -/
theorem startFrame_progress (s : State) : FrameProgress (startFrame s) := by
  refine ⟨rfl, rfl, fun c hc => ?_⟩
  have hpending : c ∈ (startFrame s).pending := (mem_rectangle s c).2 hc
  rw [if_pos hpending]
  rfl

/-- A FRAME that leaves the block busy is one that started (R172). -/
theorem eq_startFrame_of_busy {s t : State} (hb : busy s = false) (h : exec .cmdFrame s = .next t)
    (hbt : busy t = true) : t = startFrame s := by
  rw [exec_cmdFrame_idle hb] at h
  obtain ⟨-, rfl⟩ | ⟨-, -, rfl⟩ | ⟨-, -, rfl⟩ := frameCommand_cases h
  · cases hb.symm.trans hbt
  · cases hb.symm.trans hbt
  · obtain ⟨-, heq⟩ | ⟨hnil, -⟩ := acceptFrame_cases s
    · exact heq
    · exact absurd ((acceptFrame_pending s).trans hnil) ((busy_iff _).1 hbt)

/-! ### The dispatch of a CMD write -/

theorem runTransaction_command (word : Word) (s : State) :
    runTransaction (Transaction.mk true 0x50 word) s = exec (decodeCommand word) s :=
  runTransaction_of_decode (decode_mk_command word) s

theorem isGuarded_decodeCommand (word : Word) : isGuarded (decodeCommand word) = true := by
  unfold decodeCommand
  split
  · rfl
  · split <;> rfl

/-- A command word is PIXEL's, FRAME's, or by its two fields neither (R84). -/
theorem commandWord_cases (word : Word) : word = pixelWord ∨ word = frameWord ∨
    (decodeCommand word = .cmdReserved word ∧
      (word.extractLsb' 8 56 ≠ 0 ∨ (word.extractLsb' 0 8 ≠ 0x01 ∧ word.extractLsb' 0 8 ≠ 0x02))) := by
  by_cases hpixel : word = pixelWord
  · exact .inl hpixel
  by_cases hframe : word = frameWord
  · exact .inr (.inl hframe)
  refine .inr (.inr ⟨by rw [decodeCommand, if_neg hpixel, if_neg hframe], or_iff_not_imp_left.2 fun hzero => ?_⟩)
  have hhigh := not_not.1 hzero
  exact ⟨fun h => hpixel ((commandFields_iff word 0x01).1 ⟨hhigh, h⟩),
    fun h => hframe ((commandFields_iff word 0x02).1 ⟨hhigh, h⟩)⟩

end Sys2Proof.Machine

namespace Sys2Proof

open Machine

/-- Settles O21: an idle block runs PIXEL, whose coordinate is the two halves of PIX_XY. -/
theorem pixelCommandDithersOnePixel : Obligations.PixelCommandDithersOnePixel :=
  fun _ hb => exec_cmdPixel_idle hb

/-- Settles O25: an idle block records the error, a busy one refuses the write. -/
theorem reservedCommandFails : Obligations.ReservedCommandFails := fun w _ =>
  ⟨fun hb => exec_cmdReserved_idle hb w, exec_guarded_busy rfl⟩

/-- Settles O22: PENDING of an accepted frame is the rectangle, a set whose members are those of `inFrame`. -/
theorem frameCommandStartsRectangle : Obligations.FrameCommandStartsRectangle := by
  intro s hb
  refine ⟨exec_cmdFrame_noSource hb, exec_cmdFrame_noCapability hb, fun hp hh ho =>
    ⟨acceptFrame s, exec_cmdFrame_accepted hb hp hh ho, ?_, fun c => ?_, acceptFrame_done s, rfl,
      acceptFrame_frame s⟩⟩
  · rw [acceptFrame_pending]
    exact rectangle_nodup _ _
  · rw [acceptFrame_pending, mem_rectangle, inFrame_iff]

/-- Settles O23: the busy block after a FRAME is the one `startFrame` leaves. -/
theorem acceptedFrameStartsProgress : Obligations.AcceptedFrameStartsProgress := by
  intro s t hb h hbt
  rw [eq_startFrame_of_busy hb h hbt]
  exact ⟨startFrame_progress s, startFrame_pendingInFrame s, rfl, rfl⟩

/-- Settles O26: a busy block refuses every command; an idle one runs the one of the two whose word it is, or
records the error. -/
theorem commandOutcomePriority : Obligations.CommandOutcomePriority := by
  intro word s ho
  rw [runTransaction_command]
  cases hb : busy s with
  | true => exact ⟨reject s, exec_guarded_busy (isGuarded_decodeCommand word) hb, by rw [if_pos rfl]; rfl⟩
  | false =>
    have hnot : ¬ false = true := Bool.false_ne_true
    obtain rfl | rfl | ⟨hdec, hfields⟩ := commandWord_cases word
    · have hexec := exec_cmdPixel_idle hb
      refine ⟨_, hexec, ?_⟩
      rw [if_neg hnot, if_neg (by decide), if_neg (by simp [pixelWord]), if_neg (by simp [pixelWord])]
      exact ⟨hexec, rfl, rfl, rfl⟩
    · by_cases hp : s.srcPresent = false
      · refine ⟨_, exec_cmdFrame_noSource hb hp, ?_⟩
        rw [if_neg hnot, if_neg (by decide), if_pos ⟨rfl, hp⟩]
        rfl
      have hp' := Bool.eq_true_of_not_eq_false hp
      by_cases hh : s.srcHp = false
      · refine ⟨_, exec_cmdFrame_noCapability hb hp' hh, ?_⟩
        rw [if_neg hnot, if_neg (by decide), if_neg (hp ·.2), if_pos ⟨rfl, hh⟩]
        rfl
      have hexec := exec_cmdFrame_accepted hb hp' (Bool.eq_true_of_not_eq_false hh) ho
      refine ⟨_, hexec, ?_⟩
      rw [if_neg hnot, if_neg (by decide), if_neg (hp ·.2), if_neg (hh ·.2)]
      exact ⟨hexec, acceptFrame_err s, acceptFrame_errCode s, acceptFrame_rej s⟩
    · refine ⟨raiseError codeBadCmd s, hdec ▸ exec_cmdReserved_idle hb word, ?_⟩
      rw [if_neg hnot, if_pos hfields]
      rfl

end Sys2Proof
end

section
/-! PROOFS. The run of a frame (42_commands.md R173, R174, R176): the pixel a sequencer step writes, the result of
the frame for every order and interleaving, and O34, O37. -/

namespace Sys2Proof.Machine

open Sys2Proof Sys2Proof.Safety

/-! ### The sequencer step of a dutiful frame -/

/-- Any pending coordinate can be the one a sequencer step takes (R173). -/
theorem exists_picked {s : State} {c : Coord} (hc : c ∈ s.pending) : ∃ k, picked s k = some c := by
  obtain ⟨k, hk, hget⟩ := List.getElem_of_mem hc
  refine ⟨k, ?_⟩
  rw [picked, Nat.mod_eq_of_lt hk, List.getElem?_eq_getElem hk, hget]

/-- With no record of a breach or a kept write, DONE and the record of the pixels before the frame are all that
the end of the frame changes (R174). -/
theorem retire_eq {s : State} (hbreach : s.breach = none) (hkept : s.kept = []) (c : Coord) :
    retire c s = { s with
      pending := s.pending.erase c
      done := s.done || (s.pending.erase c).isEmpty
      preFrame := if !(s.pending.erase c).isEmpty then s.preFrame else [] } := by
  obtain ⟨hne, heq⟩ | ⟨hnil, heq⟩ := retire_cases c s
  · rw [heq]
    simp [hne]
  · rw [heq]
    simp [finishFrame, hnil, hbreach, hkept]

theorem frameWrite_of_not_kept (P : Params) {s : State} (hkept : s.kept = []) (c : Coord) :
    frameWrite P c s = dstStore c (frameValue P s c) s := by simp [frameWrite, hkept]

/-- The whole of a sequencer step in a frame whose host has kept its duties (R173, R174). -/
theorem sequencerStep_eq {s : State} {k : Nat} {c : Coord} (hc : picked s k = some c) (hbreach : s.breach = none)
    (hkept : s.kept = []) :
    sequencerStep Config.params k s = { s with
      pending := s.pending.erase c
      dst := memWrite s.dst (coordKey c) (pixOf Config.params s c (srcAt s.src c))
      done := s.done || (s.pending.erase c).isEmpty
      preFrame := if !(s.pending.erase c).isEmpty then s.preFrame else [] } := by
  rw [sequencerStep_picked _ hc, frameWrite_of_not_kept _ hkept, frameValue_of_no_breach _ _ hbreach]
  exact retire_eq (s := dstStore c _ s) hbreach hkept c

/-! ### The result of a frame -/

/-- `t` is the end of the frame that runs in `s`: BUSY 0, DONE 1, and the dithered source pixel at every coordinate
that was pending (R174, R176). -/
def FrameResult (s t : State) : Prop :=
  busy t = false ∧ t.done = true ∧ ∀ c : Coord, dstAt t.dst c =
    if c ∈ s.pending then pixOf Config.params s c (srcAt s.src c) else dstAt s.dst c

/-- Of the frame that runs in `s` no breach and no kept host write is recorded, and PENDING is a set. -/
structure CleanFrame (s : State) : Prop where
  breach : s.breach = none
  kept : s.kept = []
  nodup : s.pending.Nodup

/-- `t` comes after `s` in its frame, with `n` coordinates fewer pending, and goes to the same result. -/
structure FrameStep (s t : State) (n : Nat) : Prop where
  schedule : t.schedule = s.schedule
  clean : CleanFrame t
  length : t.pending.length + n = s.pending.length
  done : busy t = false → t.done = true
  result : ∀ u, FrameResult t u → FrameResult s u

theorem startFrame_clean (s : State) : CleanFrame (startFrame s) := ⟨rfl, rfl, rectangle_nodup _ _⟩

/-- With nothing pending a frame is its own result. -/
theorem frameResult_self {s : State} (hb : busy s = false) (hdone : s.done = true) : FrameResult s s :=
  ⟨hb, hdone, fun c => by simp [(busy_eq_false_iff s).1 hb]⟩

/-- A host transaction does nothing to the frame (R141). -/
theorem runTransaction_frameStep {s t : State} {tw : Transaction} (hb : busy s = true) (hclean : CleanFrame s)
    (h : runTransaction tw s = .next t) : FrameStep s t 0 := by
  obtain ⟨hloss, hgamma, hlut, -, -, hpending, hdst, hsrc, -, hkept, hbreach, -, hschedule⟩ :=
    runTransaction_while_busy hb h
  refine ⟨hschedule, ⟨hbreach.trans hclean.breach, hkept.trans hclean.kept, hpending ▸ hclean.nodup⟩,
    congrArg List.length hpending, fun hidle => ?_, fun u hu => ?_⟩
  · rw [busy_eq_false_iff, hpending] at hidle
    exact absurd hidle ((busy_iff s).1 hb)
  · simpa only [FrameResult, pixOf, hloss, hgamma, hlut, hpending, hdst, hsrc] using hu

/-- A sequencer step writes the dithered pixel at the coordinate it takes, which no later step takes again
(R173). -/
theorem sequencerStep_frameStep {s : State} (k : Nat) (hb : busy s = true) (hclean : CleanFrame s) :
    FrameStep s (sequencerStep Config.params k s) 1 := by
  obtain ⟨hbreach, hkept, hnodup⟩ := hclean
  obtain ⟨c, hc⟩ := picked_some k hb
  have hmem := picked_mem hc
  rw [sequencerStep_eq hc hbreach hkept]
  refine ⟨rfl, ⟨hbreach, hkept, hnodup.erase c⟩, ?_, fun hidle => ?_, fun u hu => ?_⟩
  · exact (congrArg (· + 1) (List.length_erase_of_mem hmem)).trans
      (Nat.sub_add_cancel (List.length_pos_of_mem hmem))
  · have hnil : s.pending.erase c = [] := (busy_eq_false_iff _).1 hidle
    exact Bool.or_eq_true_iff.2 (.inr (List.isEmpty_iff.2 hnil))
  · obtain ⟨hidle, hdone, hpix⟩ := hu
    refine ⟨hidle, hdone, fun d => (hpix d).trans ?_⟩
    by_cases hd : d = c
    · subst hd
      rw [if_neg hnodup.not_mem_erase, if_pos hmem]
      exact dstAt_write_same _ _ _
    · simp only [List.mem_erase_of_ne hd, dstAt_write_other _ _ _ _ hd]
      rfl

/-! ### The run -/

/-- A busy block answers every transaction (R141, R203). -/
theorem exec_next_of_busy {s : State} (hb : busy s = true) (i : Instr) : ∃ t, exec i s = .next t := by
  cases hi : isGuarded i with
  | true => exact ⟨_, exec_guarded_busy hi hb⟩
  | false =>
    cases i with
    | wrLoss _ | wrGamma _ | wrFrameMin _ | wrFrameMax _ | cmdPixel | cmdFrame | cmdReserved _ => cases hi
    | _ => exact ⟨_, rfl⟩

/-- Each event of a frame at work is a step of the frame, and a sequencer step takes one coordinate. -/
theorem runEvent_frameStep {s : State} {e : Event} (he : isFrameEvent e = true) (hb : busy s = true)
    (hclean : CleanFrame s) :
    ∃ t, runEvent e s = .next t ∧ FrameStep s t (if isSequencerStep e then 1 else 0) := by
  cases e with
  | transaction tw =>
    cases hdec : decode tw with
    | error r => simp [isFrameEvent, hdec, Except.toOption] at he
    | ok i =>
      obtain ⟨t, ht⟩ := exec_next_of_busy hb i
      have hrun := (runTransaction_of_decode hdec s).trans ht
      exact ⟨t, hrun, runTransaction_frameStep hb hclean hrun⟩
  | sequencer k => exact ⟨_, rfl, sequencerStep_frameStep k hb hclean⟩
  | _ => cases he

theorem busy_of_length_eq {s : State} {n : Nat} (h : n + 1 = s.pending.length) : busy s = true :=
  (busy_iff s).2 (List.ne_nil_of_length_eq_add_one h.symm)

/-- Host transactions and as many sequencer steps as coordinates are pending, the last event one of them, take a
frame to its result, whatever their order (R173, R176). -/
theorem run_frameEvents {s : State} {es : List Event} {k : Nat} (hclean : CleanFrame s)
    (hs : s.schedule = es ++ [.sequencer k]) (he : ∀ e ∈ es, isFrameEvent e = true)
    (hlen : es.countP isSequencerStep + 1 = s.pending.length) :
    ∃ t, Sys2Proof.core.run (es.length + 1) s = .next t ∧ FrameResult s t := by
  have hb := busy_of_length_eq hlen
  induction es generalizing s with
  | nil =>
    obtain ⟨-, -, hlength, hdone, hresult⟩ :=
      sequencerStep_frameStep (s := { s with schedule := [] }) k hb { hclean with }
    have hidle := (busy_eq_false_iff _).2 (List.length_eq_zero_iff.1 (Nat.succ.inj (hlength.trans hlen.symm)))
    exact ⟨_, run_succ_next (k := 0) (step_of_schedule hs), hresult _ (frameResult_self hidle (hdone hidle))⟩
  | cons e es ih =>
    obtain ⟨hhead, htail⟩ := List.forall_mem_cons.1 he
    obtain ⟨t, hrun, hschedule, hclean', hlength, -, hresult⟩ :=
      runEvent_frameStep (s := { s with schedule := es ++ [.sequencer k] }) hhead hb { hclean with }
    have hlen' : es.countP isSequencerStep + 1 = t.pending.length := by
      rw [List.countP_cons] at hlen
      simp only at hlength
      omega
    obtain ⟨u, hu, hend⟩ := ih hclean' hschedule htail hlen' (busy_of_length_eq hlen')
    exact ⟨u, (run_succ_next ((step_of_schedule hs).trans hrun)).trans hu, hresult u hend⟩

end Sys2Proof.Machine

namespace Sys2Proof

open Machine

/-- Settles O34: with the duties kept, a sequencer step is `sequencerStep_eq` at the coordinate it picks. -/
theorem sequencerStepWritesOnePixel : Obligations.SequencerStepWritesOnePixel := by
  intro s hb hbreach hkept
  refine ⟨fun c => exists_picked, fun k => ?_⟩
  obtain ⟨c, hc⟩ := picked_some k hb
  exact ⟨c, _, picked_mem hc, hc, congrArg Host.Outcome.next (sequencerStep_eq hc hbreach hkept),
    dstAt_write_same _ _ _, fun d hd => dstAt_write_other _ _ _ _ hd, rfl, rfl, rfl⟩

/-- Settles O37: FRAME makes the rectangle pending, and the events after it take the frame to its result. -/
theorem frameResultForEveryOrder : Obligations.FrameResultForEveryOrder := by
  intro s tw es k hb hp hh ho hdec hs hes hlen
  have hne : rectangle s.frameMin s.frameMax ≠ [] := List.ne_nil_of_length_eq_add_one hlen.symm
  have hstep : step s = .next (startFrame { s with schedule := es ++ [.sequencer k] }) :=
    (step_of_schedule hs).trans
      ((runTransaction_of_decode hdec _).trans (exec_cmdFrame_starts hb hp hh ho hne))
  rw [← List.countP_eq_length_filter] at hlen
  obtain ⟨t, ht, hidle, hdone, hpix⟩ :=
    run_frameEvents (startFrame_clean { s with schedule := es ++ [.sequencer k] }) rfl hes hlen
  refine ⟨t, (run_succ_next hstep).trans ht, hidle, hdone, fun c => ?_⟩
  rw [hpix c]
  simp only [startFrame_pending, mem_rectangle]
  rfl

end Sys2Proof
end

section
/-! PROOFS. What a busy block refuses and an idle block keeps (60_exceptions.md R204, R215); O20, O32. -/

namespace Sys2Proof.Machine

open Sys2Proof

/-- With nothing scheduled and no frame running, the next event is a sequencer step and nothing is taken out or
drawn (R215, log entry 1). -/
theorem nextEvent_idle {s : State} (hs : s.schedule = []) (hb : busy s = false) :
    nextEvent s = (.sequencer 0, s) := by
  simp only [nextEvent, hs, hb, Bool.false_eq_true, if_false]

end Sys2Proof.Machine

namespace Sys2Proof

open Machine

/-- Settles O20: the guard refuses by `reject`, and REJ has no source but a guarded write of a busy block. -/
theorem busyGuard : Obligations.BusyGuard := by
  refine fun i s => ⟨exec_guarded_busy, fun t hno h hclear => ?_⟩
  obtain ⟨rejSet, -⟩ := exec_rej_sources h
  exact Bool.eq_false_of_not_eq_true fun hset => hno (rejSet hclear hset)

/-- Settles O32: the sequencer step that an idle block takes picks nothing. -/
theorem idleBlockKeepsState : Obligations.IdleBlockKeepsState := by
  intro s hs hb
  rw [step, nextEvent_idle hs hb]
  exact congrArg Host.Outcome.next (sequencerStep_idle Config.params 0 s hb)

end Sys2Proof
end

section
/-! PROOFS. The events of a running frame that goes on, the duties of R236 and R237 kept or not: what they leave of
its record, and how many steps it takes; O35, O41, O42, O43. -/

namespace Sys2Proof.Machine

open Sys2Proof Sys2Proof.Safety

/-! ### The breaches of the source duty -/

section
variable {s : State} (hb : busy s = true)
include hb

theorem driveSrcPresent_breach {b : Bool} (h : (b && s.srcPresent) = false) :
    driveSrcPresent b s = { s with srcPresent := b, breach := some s.draws, draws := s.draws + 1 } := by
  rw [driveSrcPresent, if_neg (by simp [h])]
  exact breachDuty_busy (s := { s with srcPresent := b }) hb

theorem driveSrcHp_breach {b : Bool} (h : (b && s.srcHp) = false) :
    driveSrcHp b s = { s with srcHp := b, breach := some s.draws, draws := s.draws + 1 } := by
  rw [driveSrcHp, if_neg (by simp [h])]
  exact breachDuty_busy (s := { s with srcHp := b }) hb

theorem changeSource_breach {c : Coord} (hc : inFrame s c = true) (p : SrcPixel) :
    changeSource c p s =
      { s with src := memWrite s.src (coordKey c) p, breach := some s.draws, draws := s.draws + 1 } := by
  rw [changeSource_eq, if_pos (by simp [hb, hc])]
  rfl

end

/-! ### The events other than a sequencer step -/

/-- The event `e` takes `s` to `t` and does nothing to the running frame: the same coordinates pending, the same
record of the pixels before the frame, no breach forgotten, and the pixels and their outcomes as they were, but for
that of a host write. -/
structure LeavesFrame (e : Event) (s t : State) : Prop where
  pending : t.pending = s.pending
  preFrame : t.preFrame = s.preFrame
  breach : ∀ n, s.breach = some n → ∃ m, t.breach = some m
  pixel : ∀ c, (∀ v b, e ≠ .dstWrite c v b) → dstAt t.dst c = dstAt s.dst c ∧ (c ∈ t.kept ↔ c ∈ s.kept)

/-- An event that sets none of the fields of a frame leaves it. -/
theorem LeavesFrame.of_eq {e : Event} {s t : State} (hpending : t.pending = s.pending)
    (hpre : t.preFrame = s.preFrame) (hbreach : t.breach = s.breach) (hdst : t.dst = s.dst)
    (hkept : t.kept = s.kept) : LeavesFrame e s t :=
  ⟨hpending, hpre, fun n hn => ⟨n, hbreach.trans hn⟩, fun _ _ => by rw [hdst, hkept]; exact ⟨rfl, Iff.rfl⟩⟩

/-- A breach, recorded on a state that differs from `s` outside its frame, leaves the frame of `s`. -/
theorem LeavesFrame.after_breachDuty {e : Event} {s u : State} (h : LeavesFrame e s u) :
    LeavesFrame e s (breachDuty u) := by
  obtain ⟨hpending, hpre, hbreach, hpixel⟩ := h
  refine ⟨by rw [breachDuty_pending, hpending], by rw [breachDuty_preFrame, hpre], fun n hn => ?_, fun c hc => ?_⟩
  · obtain ⟨m, hm⟩ := hbreach n hn
    exact breachDuty_keeps hm
  · rw [breachDuty_dst, breachDuty_kept]
    exact hpixel c hc

theorem runTransaction_leavesFrame {e : Event} {s t : State} {tw : Transaction} (hb : busy s = true)
    (h : runTransaction tw s = .next t) : LeavesFrame e s t := by
  obtain ⟨-, -, -, -, -, hpending, hdst, -, hpre, hkept, hbreach, -, -⟩ := runTransaction_while_busy hb h
  exact .of_eq hpending hpre hbreach hdst hkept

theorem busEvent_leavesFrame {e : Event} {s t : State} {a : BusAccess} (hb : busy s = true)
    (h : busEvent a s = .next t) : LeavesFrame e s t := by
  obtain ⟨-, -, -, -, -, hpending, hdst, -, hpre, hkept, hbreach, -, -⟩ := busEvent_while_busy hb h
  exact .of_eq hpending hpre hbreach hdst hkept

theorem driveSrcPresent_leavesFrame (e : Event) (b : Bool) (s : State) :
    LeavesFrame e s (driveSrcPresent b s) := by
  have hdriven : LeavesFrame e s { s with srcPresent := b } := .of_eq rfl rfl rfl rfl rfl
  unfold driveSrcPresent
  split
  · exact hdriven
  · exact hdriven.after_breachDuty

theorem driveSrcHp_leavesFrame (e : Event) (b : Bool) (s : State) : LeavesFrame e s (driveSrcHp b s) := by
  have hdriven : LeavesFrame e s { s with srcHp := b } := .of_eq rfl rfl rfl rfl rfl
  unfold driveSrcHp
  split
  · exact hdriven
  · exact hdriven.after_breachDuty

theorem changeSource_leavesFrame (e : Event) (c : Coord) (p : SrcPixel) (s : State) :
    LeavesFrame e s (changeSource c p s) := by
  have hstored : LeavesFrame e s (srcStore c p s) := .of_eq rfl rfl rfl rfl rfl
  unfold changeSource
  split
  · exact hstored.after_breachDuty
  · exact hstored

theorem hostWrite_leavesFrame (c : Coord) (v : DstPixel) (survives : Bool) (s : State) :
    LeavesFrame (.dstWrite c v survives) s (hostWrite c v survives s) := by
  rw [hostWrite_frame]
  refine ⟨rfl, rfl, fun n hn => ⟨n, hn⟩, fun d hd => ?_⟩
  have hdc : d ≠ c := fun h => hd v survives (h ▸ rfl)
  exact ⟨dstAt_hostWrite_other hdc v survives s, mem_kept_hostWrite_other hdc v survives s⟩

theorem driveOverlap_leavesFrame {e : Event} {b : Bool} {s t : State} (h : driveOverlap b s = .next t) :
    LeavesFrame e s t := by
  unfold driveOverlap at h
  split at h
  · cases h
  · cases h; exact .of_eq rfl rfl rfl rfl rfl

/-- Every event but a sequencer step and a reset leaves a running frame (R141, R236, R237). -/
theorem runEvent_leavesFrame {e : Event} {s t : State} (h : runEvent e s = .next t) (hb : busy s = true)
    (hseq : isSequencerStep e = false) (hreset : e ≠ .reset) : LeavesFrame e s t := by
  cases e with
  | transaction tw => exact runTransaction_leavesFrame hb h
  | bus a => exact busEvent_leavesFrame hb h
  | sequencer k => cases hseq
  | srcPresent b => cases h; exact driveSrcPresent_leavesFrame _ b s
  | srcHp b => cases h; exact driveSrcHp_leavesFrame _ b s
  | srcWrite c p => cases h; exact changeSource_leavesFrame _ c p s
  | srcSideEffect => cases h; exact (LeavesFrame.of_eq rfl rfl rfl rfl rfl).after_breachDuty
  | dstRead c sees => cases h; exact .of_eq rfl rfl rfl rfl rfl
  | dstWrite c v survives => cases h; exact hostWrite_leavesFrame c v survives s
  | overlap b => exact driveOverlap_leavesFrame h
  | reset => exact absurd rfl hreset

/-! ### The sequencer step, the duties kept or not -/

section
variable {P : Params} {k : Nat} {s : State} {c : Coord} (hc : picked s k = some c)
include hc

theorem sequencerStep_pending : (sequencerStep P k s).pending = s.pending.erase c := by
  rw [sequencerStep_picked P hc, retire_pending, frameWrite_pending]

/-- The coordinate taken gets the value of the frame, unless a host write is kept there (R173, R237). -/
theorem dstAt_sequencerStep_same : dstAt (sequencerStep P k s).dst c =
    if c ∈ s.kept then dstAt s.dst c else frameValue P s c := by
  rw [sequencerStep_picked P hc, retire_dst, dstAt_frameWrite_same]

theorem dstAt_sequencerStep_other {d : Coord} (hd : d ≠ c) :
    dstAt (sequencerStep P k s).dst d = dstAt s.dst d := by
  rw [sequencerStep_picked P hc, retire_dst, dstAt_frameWrite_other _ _ _ _ hd]

/-- The step that takes the last coordinate sets DONE (R174). -/
theorem sequencerStep_done (hidle : busy (sequencerStep P k s) = false) : (sequencerStep P k s).done = true := by
  rw [busy_eq_false_iff, sequencerStep_pending hc] at hidle
  rw [sequencerStep_picked P hc]
  obtain ⟨hne, -⟩ | ⟨-, heq⟩ := retire_cases c (frameWrite P c s)
  · rw [frameWrite_pending] at hne
    exact absurd hidle hne
  · rw [heq, finishFrame_done]

/-- A sequencer step that does not end the frame keeps the whole record of it (R174). -/
theorem sequencerStep_record (hb : busy (sequencerStep P k s) = true) :
    (sequencerStep P k s).preFrame = s.preFrame ∧ (sequencerStep P k s).kept = s.kept ∧
      (sequencerStep P k s).breach = s.breach := by
  rw [busy_iff, sequencerStep_pending hc] at hb
  rw [sequencerStep_picked P hc]
  obtain ⟨-, heq⟩ | ⟨hnil, -⟩ := retire_cases c (frameWrite P c s)
  · rw [heq]
    exact ⟨frameWrite_preFrame P c s, frameWrite_kept P c s, frameWrite_breach P c s⟩
  · rw [frameWrite_pending] at hnil
    exact absurd hnil hb

end

theorem sequencerStep_schedule (P : Params) (k : Nat) (s : State) :
    (sequencerStep P k s).schedule = s.schedule := by
  unfold sequencerStep
  split
  · rfl
  · next c _ =>
    obtain ⟨-, heq⟩ | ⟨-, heq⟩ := retire_cases c (frameWrite P c s)
    · rw [heq, frameWrite_schedule]
    · rw [heq, finishFrame_schedule, frameWrite_schedule]

/-! ### A frame left to itself -/

/-- With nothing scheduled and a frame running, the next event is a sequencer step on a free pick (R173, R243, log
entry 2). -/
theorem nextEvent_unscheduled {s : State} (hs : s.schedule = []) (hb : busy s = true) :
    nextEvent s = (.sequencer (Config.freePick s.draws), { s with draws := s.draws + 1 }) := by
  simp only [nextEvent, hs, hb, if_true]

/-- With nothing scheduled a step of a running frame takes one coordinate, and the last one sets DONE (R174, R243). -/
theorem step_unscheduled {s : State} (hs : s.schedule = []) (hb : busy s = true) :
    ∃ t, step s = .next t ∧ t.schedule = [] ∧ t.pending.length + 1 = s.pending.length ∧
      (busy t = false → t.done = true) := by
  obtain ⟨c, hc⟩ := picked_some (s := { s with draws := s.draws + 1 }) (Config.freePick s.draws) hb
  have hmem : c ∈ s.pending := picked_mem hc
  have hstep : step s = .next
      (sequencerStep Config.params (Config.freePick s.draws) { s with draws := s.draws + 1 }) := by
    rw [step, nextEvent_unscheduled hs hb]
    rfl
  refine ⟨_, hstep, (sequencerStep_schedule _ _ _).trans hs, ?_, sequencerStep_done hc⟩
  rw [sequencerStep_pending hc]
  exact List.length_erase_add_one hmem

/-- Left to itself a block goes through its frame, one coordinate a step, as far as there are coordinates (R243). -/
theorem run_unscheduled {s : State} (hs : s.schedule = []) (hdone : busy s = false → s.done = true) {m : Nat}
    (hm : m ≤ s.pending.length) :
    ∃ t, Sys2Proof.core.run m s = .next t ∧ t.pending.length + m = s.pending.length ∧
      (busy t = false → t.done = true) := by
  induction m generalizing s with
  | zero => exact ⟨s, rfl, rfl, hdone⟩
  | succ m ih =>
    have hb : busy s = true := (busy_iff s).2 (List.length_pos_iff.1 (by omega))
    obtain ⟨t, ht, hschedule, hlength, hdone'⟩ := step_unscheduled hs hb
    obtain ⟨u, hu, hlength', hend⟩ := ih hschedule hdone' (by omega)
    exact ⟨u, (run_succ_next ht).trans hu, by omega, hend⟩

/-! ### A step of a frame that goes on -/

/-- While BUSY stays 1 no event but a reset changes the record of the pixels before the frame, or ends a breach
(R236, R237). -/
theorem runEvent_record {e : Event} {s t : State} (h : runEvent e s = .next t) (hb : busy s = true)
    (hreset : e ≠ .reset) (hbt : busy t = true) :
    t.preFrame = s.preFrame ∧ ∀ n, s.breach = some n → ∃ m, t.breach = some m := by
  cases hseq : isSequencerStep e with
  | false =>
    obtain ⟨-, hpre, hbreach, -⟩ := runEvent_leavesFrame h hb hseq hreset
    exact ⟨hpre, hbreach⟩
  | true =>
    cases e with
    | sequencer k =>
      cases h
      obtain ⟨c, hc⟩ := picked_some k hb
      obtain ⟨hpre, -, hbreach⟩ := sequencerStep_record hc hbt
      exact ⟨hpre, fun n hn => ⟨n, hbreach.trans hn⟩⟩
    | _ => cases hseq

theorem step_record {s t : State} (h : step s = .next t) (hb : busy s = true) (hreset : (nextEvent s).1 ≠ .reset)
    (hbt : busy t = true) : t.preFrame = s.preFrame ∧ ∀ n, s.breach = some n → ∃ m, t.breach = some m := by
  rw [step, nextEvent_frame] at h
  have record := runEvent_record h hb hreset hbt
  exact record

/-! ### The races on the destination -/

/-- The race at the pending coordinate `c` between `s` and `t`: the frame has not come there, and the pixel and its
outcome are as they were; or it has, and the pixel is a host write kept there or else the frame's value (R237). -/
def RaceGoesOn (c : Coord) (s t : State) : Prop :=
  if c ∈ t.pending then dstAt t.dst c = dstAt s.dst c ∧ (c ∈ t.kept ↔ c ∈ s.kept)
  else dstAt t.dst c = if c ∈ s.kept then dstAt s.dst c else frameValue Config.params s c

theorem sequencerStep_raceGoesOn {s : State} {c : Coord} (k : Nat) (hp : PendingInFrame s) (hc : c ∈ s.pending) :
    RaceGoesOn c s (sequencerStep Config.params k s) := by
  obtain ⟨d, hd⟩ := picked_some k ((busy_iff s).2 (List.ne_nil_of_mem hc))
  have hpending := sequencerStep_pending (P := Config.params) hd
  by_cases hcd : c = d
  · subst hcd
    rw [RaceGoesOn, hpending, if_neg hp.1.not_mem_erase]
    exact dstAt_sequencerStep_same hd
  · have hmem : c ∈ (sequencerStep Config.params k s).pending := hpending ▸ (List.mem_erase_of_ne hcd).2 hc
    obtain ⟨-, hkept, -⟩ := sequencerStep_record hd ((busy_iff _).2 (List.ne_nil_of_mem hmem))
    rw [RaceGoesOn, if_pos hmem, hkept]
    exact ⟨dstAt_sequencerStep_other hd hcd, Iff.rfl⟩

theorem runEvent_raceGoesOn {e : Event} {s t : State} {c : Coord} (h : runEvent e s = .next t)
    (hp : PendingInFrame s) (hc : c ∈ s.pending) (hreset : e ≠ .reset) (hwrite : ∀ v b, e ≠ .dstWrite c v b) :
    RaceGoesOn c s t := by
  cases hseq : isSequencerStep e with
  | false =>
    obtain ⟨hpending, -, -, hpixel⟩ :=
      runEvent_leavesFrame h ((busy_iff s).2 (List.ne_nil_of_mem hc)) hseq hreset
    rw [RaceGoesOn, if_pos (hpending ▸ hc)]
    exact hpixel c hwrite
  | true =>
    cases e with
    | sequencer k => cases h; exact sequencerStep_raceGoesOn k hp hc
    | _ => cases hseq

/-- The pixel after a host write: away from a running frame and at a coordinate still pending it lands; at one the
frame has written, as the event says (R237). -/
theorem dstAt_hostWrite_same (c : Coord) (v : DstPixel) (survives : Bool) (s : State) :
    dstAt (hostWrite c v survives s).dst c =
      if races s c = true ∧ c ∉ s.pending ∧ survives = false then dstAt s.dst c else v := by
  unfold hostWrite
  cases hr : races s c with
  | false => simp
  | true =>
    by_cases hc : c ∈ s.pending
    · simp [hc]
    · cases survives <;> simp [hc]

theorem seenPixel_away {s : State} {c : Coord} (hr : races s c = false) (P : Params) (sees : RaceRead) :
    seenPixel P c sees s = dstAt s.dst c := by simp [seenPixel, hr]

section
variable {s : State} {c : Coord} (hr : races s c = true) (P : Params)
include hr

theorem seenPixel_before : seenPixel P c .before s = dstAt s.preFrame c := by simp [seenPixel, hr]

theorem seenPixel_now : seenPixel P c .now s = dstAt s.dst c := by simp [seenPixel, hr]

theorem seenPixel_frame : seenPixel P c .frame s = if c ∈ s.pending then frameValue P s c else dstAt s.dst c := by
  simp [seenPixel, hr]

/-- A racing read sees no value but these three (R237). -/
theorem seenPixel_cases (sees : RaceRead) : seenPixel P c sees s = dstAt s.preFrame c ∨
    seenPixel P c sees s = dstAt s.dst c ∨ seenPixel P c sees s = frameValue P s c := by
  cases sees with
  | before => exact .inl (seenPixel_before hr P)
  | now => exact .inr (.inl (seenPixel_now hr P))
  | frame =>
    rw [seenPixel_frame hr]
    split
    · exact .inr (.inr rfl)
    · exact .inr (.inl rfl)

end

/-- Where the duties have been kept, the frame has dithered every coordinate it has written (R173, R176). -/
theorem dstAt_written {s : State} {c : Coord} (hf : FrameProgress s) (hr : races s c = true) (hc : c ∉ s.pending) :
    dstAt s.dst c = pixOf Config.params s c (srcAt s.src c) := by
  obtain ⟨-, hframe⟩ : busy s = true ∧ inFrame s c = true := by simpa [races] using hr
  obtain ⟨-, -, hpix⟩ := hf
  rw [hpix c hframe, if_neg hc]

end Sys2Proof.Machine

namespace Sys2Proof

open Machine

/-- Settles O35: left to itself the frame runs down PENDING, and DONE is set when it is empty. -/
theorem frameCompletesAfterItsCoordinates : Obligations.FrameCompletesAfterItsCoordinates := by
  intro s hs hb
  have hdone : busy s = false → s.done = true := fun hidle => absurd hb (by simp [hidle])
  refine ⟨?_, fun m hm => ?_⟩
  · obtain ⟨t, ht, hlength, hend⟩ := run_unscheduled hs hdone (Nat.le_refl _)
    have hidle := (busy_eq_false_iff t).2 (List.length_eq_zero_iff.1 (by omega))
    exact ⟨t, ht, hidle, hend hidle⟩
  · obtain ⟨u, hu, hlength, -⟩ := run_unscheduled hs hdone (Nat.le_of_lt hm)
    exact ⟨u, hu, (busy_iff u).2 (List.length_pos_iff.1 (by omega)), by omega⟩

/-- Settles O41: each breach is recorded, the record stands until the frame ends, and under it the frame writes free
values. -/
theorem breachFreesUnwrittenPixels : Obligations.BreachFreesUnwrittenPixels := by
  intro s hb
  refine ⟨fun b h => congrArg _ (driveSrcPresent_breach hb h), fun b h => congrArg _ (driveSrcHp_breach hb h),
    fun c p hc => congrArg _ (changeSource_breach hb hc p), congrArg _ (breachDuty_busy hb), fun n hn =>
    ⟨fun t hreset h hbt => ?_, fun k c hc => ⟨fun hkept => ?_, fun d hd => dstAt_sequencerStep_other hc hd⟩⟩⟩
  · obtain ⟨-, hbreach⟩ := step_record h hb hreset hbt
    obtain ⟨m, hm⟩ := hbreach n hn
    exact ⟨m, hm, fun c _ => frameValue_breach _ c hm⟩
  · rw [dstAt_sequencerStep_same hc, if_neg hkept, frameValue_breach _ c hn]

/-- Settles O42: a read shows the pixel `seenPixel` names, and the record it may show stays with the frame. -/
theorem hostReadRace : Obligations.HostReadRace := by
  refine ⟨fun s t hb hreset h hbt => (step_record h hb hreset hbt).1, fun s c sees =>
    ⟨seenPixel Config.params c sees s, rfl, fun hr => seenPixel_away hr _ sees, ?_, ?_, ?_, ?_,
      fun hr => seenPixel_cases hr _ sees⟩⟩
  · rintro hr rfl
    exact seenPixel_before hr _
  · rintro hr rfl
    exact seenPixel_now hr _
  · rintro hr rfl hc
    rw [seenPixel_frame hr, if_pos hc]
  · rintro hr rfl hc
    rw [seenPixel_frame hr, if_neg hc]
    exact ⟨rfl, fun hf => dstAt_written hf hr hc⟩

/-- Settles O43: a host write is `hostWrite`, and the race it enters goes on over every other event, the sequencer
step that ends it included. -/
theorem hostWriteRace : Obligations.HostWriteRace := by
  refine fun s c => ⟨fun v survives => ⟨hostWrite c v survives s, rfl, fun d hd =>
    ⟨dstAt_hostWrite_other hd v survives s, mem_kept_hostWrite_other hd v survives s⟩, ?_, ?_, ?_,
      hostWrite_frame c v survives s⟩, fun t hp hc hreset hwrite h => ?_⟩
  · intro hr
    simp [dstAt_hostWrite_same, hr]
  · intro hr hc
    cases survives <;> simp [dstAt_hostWrite_same, hr, hc]
  · intro hr hc
    exact ⟨by simp [dstAt_hostWrite_same, hc], mem_kept_hostWrite_same hr hc v survives⟩
  · rw [step, nextEvent_frame] at h
    have race := runEvent_raceGoesOn h hp hc hreset hwrite
    exact race

end Sys2Proof
end

section
/-! PROOFS. Reset (70_reset_and_hazards.md R230 to R234) and the refusal of a FRAME on overlapping images (R237);
O24, O38, O39, O40, O44. -/

namespace Sys2Proof.Machine

open Sys2Proof Sys2Proof.Safety

/-- A FRAME with pixels whose images share storage is refused (R237, U10). -/
theorem exec_cmdFrame_overlap {s : State} (hb : busy s = false) (hp : s.srcPresent = true) (hh : s.srcHp = true)
    (ho : s.overlap = true) (hne : rectangle s.frameMin s.frameMax ≠ []) :
    exec .cmdFrame s = .refused .overlappingImages := by
  have hstart : busy (startFrame s) = true := (busy_iff _).2 hne
  simp [exec_cmdFrame_idle hb, frameCommand, hp, hh, ho, hstart]

@[simp] theorem resetBlock_lut (s : State) : (resetBlock s).lut = lutFill Config.params gammaDefault := rfl

end Sys2Proof.Machine

namespace Sys2Proof

open Machine

/-- Settles O24: the rectangle that is not empty is what makes `startFrame` busy. -/
theorem overlappingFrameRefused : Obligations.OverlappingFrameRefused :=
  fun _ => exec_cmdFrame_overlap

/-- Settles O38: the fields of `resetBlock`. -/
theorem resetLeavesResetValues : Obligations.ResetLeavesResetValues := fun s =>
  ⟨resetBlock s, rfl, rfl, rfl, rfl, rfl, rfl, rfl, rfl, rfl, rfl, rfl, rfl, rfl, rfl, rfl, rfl, rfl, rfl⟩

/-- Settles O39: the refill is `lutFill`, whose entries are the power law in the LUT variant. -/
theorem resetRefillsLutAndKeepsImages : Obligations.ResetRefillsLutAndKeepsImages := by
  refine fun s => ⟨resetBlock s, rfl, rfl, rfl, ?_⟩
  rw [resetBlock_lut]
  split
  · next hpower => exact lutFill_power hpower _
  · next hlut => exact ⟨_, lutFill_lut hlut _, fun v => lutTable_get Config.params gammaDefault v v.isLt⟩

/-- Settles O40: the fields of `State.reset`. -/
theorem resetStateValues : Obligations.ResetStateValues :=
  ⟨rfl, rfl, rfl, rfl, rfl, rfl, rfl, rfl, rfl, rfl, rfl, rfl⟩

/-- Settles O44: no error, a positive GAMMA with its LUT, nothing pending, nothing written, nothing recorded. -/
theorem resetMeetsInvariant : Obligations.ResetMeetsInvariant :=
  ⟨⟨iff_of_true rfl rfl, Nat.zero_le 3⟩, (by decide : fgt gammaDefault fzero = true), rfl, pendingInFrame_of_idle rfl,
    ⟨rfl, rfl, rfl⟩, fun _ => ⟨rfl, rfl, rfl⟩⟩

end Sys2Proof
end
